-- ==== Sys2Proof/Word.lean ====
section
/-! DEFINITION. The widths the spec fixes (00_scope.md R9, R11; 30_encoding.md R69) and the field descriptor
of the bit-field codec as data (40_bitfield_codec.md R81, 30_encoding.md R73). -/

namespace Sys2Proof

/-- A 16-bit frame or operand; bit 15 is the most significant (R9, R12, R57). -/
abbrev Frame := BitVec 16

/-- A 14-bit register address or data field (R9, R40). -/
abbrev Field14 := BitVec 14

/-- The 20-bit scalar result (R11, R24). -/
abbrev Value := BitVec 20

/-- A 46-bit request word, REQ = C, B, A, OP from the top (R69). -/
abbrev Request := BitVec 46

/-- A field descriptor as the request carries it (R73): `off` = C[3:0], `wid` = C[8:4], `bw` = C[9]
(true selects the 8-bit backing value). Any value of the three is a descriptor; R82 says which are legal. -/
structure FieldDesc where
  off : BitVec 4
  wid : BitVec 5
  bw : Bool
deriving DecidableEq, Repr

end Sys2Proof
end

