-- ==== Sys2Proof/Machine/Flags.lean ====
section
/-! DEFINITION. Bit counting, the parity function P and the two flags computed from a received frame
(41_parity.md; 10_state.md R25, R26), with the bit fields of a frame (30_encoding.md R64, R66). -/

namespace Sys2Proof

/-- The number of 1 bits of `v` at positions below `n`. -/
def onesBelow {w : Nat} (v : BitVec w) : Nat → Nat
  | 0 => 0
  | n + 1 => onesBelow v n + (v.getLsbD n).toNat

/-- popcount(v) (R13). -/
def popcount {w : Nat} (v : BitVec w) : Nat := onesBelow v w

/-- P(f) (R93): true when the count of 1 bits of f[14:0] is even; bit 15 is not read. -/
def parityBit (f : Frame) : Bool := popcount (f.extractLsb' 0 15) % 2 == 0

/-- Bits 13:0 of a frame: ADDR or DATA (R64, R66). -/
def frameLow (f : Frame) : Field14 := f.extractLsb' 0 14

/-- Bit 14 of a frame: RW or EF (R64, R66). -/
def frameBit14 (f : Frame) : Bool := f.getLsbD 14

/-- Bit 15 of a frame: the parity bit as carried (R64, R66). -/
def frameBit15 (f : Frame) : Bool := f.getLsbD 15

/-- The frame whose bits 15, 14 and 13:0 are given (R64, R66). -/
def packFrame (b15 b14 : Bool) (low : Field14) : Frame :=
  ((BitVec.ofBool b15).setWidth 16 <<< 15) ||| ((BitVec.ofBool b14).setWidth 16 <<< 14) ||| low.setWidth 16

/-- RSP_PE of a frame (R25, R96, R103): the carried parity bit differs from P. -/
def parityFault (f : Frame) : Bool := frameBit15 f ^^ parityBit f

/-- RSP_EF of a data frame (R26, R103): bit 14. -/
def errorFlag (f : Frame) : Bool := frameBit14 f

end Sys2Proof
end

