-- ==== Sys2Proof/Config.lean ====
section
/-! DEFINITION. What one instance of the block fixes and the spec leaves open (00_scope.md R10): `CS_ID_WIDTH`,
`CS_ID`, `REG_LAYOUTS` and `WIRE_ORDER`, each an uninterpreted constant. The fifth parameter, `SENSOR`, is an
argument of Sys2Proof/Machine/Environment.lean: the words it gives reach the machine as inputs (log entries 3, 4).
Beside them, what the result registers hold after a reset, which the spec gives no value and says is not zero
(10_state.md R34): uninterpreted too (log entry 1). -/

namespace Sys2Proof

/-- The registers the source names (R19, R42). -/
inductive RegName where
  | nop | errfl | prog | zposm | zposl | settings1 | settings2 | diaagc | mag | angle | anglecom
deriving DecidableEq, Repr

/-- The two classes of sensor register (R41). -/
inductive RegClass where
  | volatile | nonVolatile
deriving DecidableEq, Repr

/-- One field of a `REG_LAYOUTS` entry (R89); `filler` marks unused bits named as a field (R90). -/
structure LayoutField where
  name : String
  off : Nat
  wid : Nat
  filler : Bool
deriving DecidableEq, Repr

/-- One register's row of `REG_LAYOUTS` (R89, R90): its backing width is `w`. -/
structure RegLayout where
  reg : RegName
  w : Nat
  fields : List LayoutField
deriving DecidableEq, Repr

/-- A value of `WIRE_ORDER` (R57): the place in the frame of the bit that goes k-th on the wire, bit order and byte
order together. The spec lists no values; that an order is a permutation of the frame's sixteen bits, and that every
one is a value, is the model's choice (DESIGN CHOICE, log entry 3). -/
abbrev WireOrder := Equiv.Perm (Fin 16)

/-- `CS_ID_WIDTH` (R10, R22): open, so no value of it can be proved. -/
opaque Config.csIdWidth : Nat

/-- `CS_ID` (R10, R22): the chip-select identifier bound at construction. -/
opaque Config.csId : BitVec Config.csIdWidth

/-- `REG_LAYOUTS` (R10, R89): open; it only names descriptors for requesters. -/
opaque Config.regLayouts : List RegLayout

/-- `WIRE_ORDER` (R10, R57): open; read by no rule. -/
opaque Config.wireOrder : WireOrder

/-- What RSP_FRAME holds after a reset: no value of the spec's, "not as zero" (R34; DESIGN CHOICE, log entry 1). -/
opaque Config.resetRspFrame : Frame

/-- What RSP_VAL holds after a reset (R34; DESIGN CHOICE, log entry 1). -/
opaque Config.resetRspVal : Value

/-- What RSP_PE holds after a reset (R34; DESIGN CHOICE, log entry 1). -/
opaque Config.resetRspPe : Bool

/-- What RSP_EF holds after a reset (R34; DESIGN CHOICE, log entry 1). -/
opaque Config.resetRspEf : Bool

/-- What RSP_ERR holds after a reset (R34; DESIGN CHOICE, log entry 1). -/
opaque Config.resetRspErr : BitVec 2

end Sys2Proof
end

