-- ==== Sys2Proof/Syntax.lean ====
section
/-! DEFINITION. The instruction set: one constructor per row of spec/opcode_table.json. Three kinds of row stand in
it: the operations of the request interface (30_encoding.md R70), the frames on the wire (R63 to R67; the
exchange of that frame is what the row does), and the requester's pseudo-operations (R77). -/

namespace Sys2Proof

/-- One constructor per row of the opcode table. A request constructor carries exactly the operand bits its row
of R71 reads; a frame constructor carries every bit its row leaves free; a pseudo-operation carries its 16-bit
operand values (R136 to R143). -/
inductive Instr where
  /-- PAR_GEN, OP 0x0 (R95): `a` = A[15:0]. -/
  | parGen (a : Frame)
  /-- PAR_CHK, OP 0x1 (R96): `a` = A[15:0]. -/
  | parChk (a : Frame)
  /-- CMD_ENC, OP 0x2 (R101): `addr` = A[13:0], `rw` = B[0]. -/
  | cmdEnc (addr : Field14) (rw : Bool)
  /-- DAT_ENC, OP 0x3 (R102): `data` = A[13:0]. -/
  | datEnc (data : Field14)
  /-- FRM_DEC, OP 0x4 (R103): `a` = A[15:0]. -/
  | frmDec (a : Frame)
  /-- FLD_GET, OP 0x5 (R83): `a` = A[15:0], `d` = C. -/
  | fldGet (a : Frame) (d : FieldDesc)
  /-- FLD_SET, OP 0x6 (R84): `a` = A[15:0], `b` = B[15:0], `d` = C. -/
  | fldSet (a b : Frame) (d : FieldDesc)
  /-- ANG_SCL, OP 0x7 (R131): `raw` = A[13:0]. -/
  | angScl (raw : Field14)
  /-- RD_REG, OP 0x8 (R114): `addr` = A[13:0]. -/
  | rdReg (addr : Field14)
  /-- WR_REG, OP 0x9 (R119): `addr` = A[13:0], `data` = B[13:0]. -/
  | wrReg (addr data : Field14)
  /-- Reserved OP 0xA (R72). -/
  | reservedA
  /-- Reserved OP 0xB (R72). -/
  | reservedB
  /-- Reserved OP 0xC (R72). -/
  | reservedC
  /-- Reserved OP 0xD (R72). -/
  | reservedD
  /-- Reserved OP 0xE (R72). -/
  | reservedE
  /-- Reserved OP 0xF (R72). -/
  | reservedF
  /-- WIRE_READ_CMD (R64, RW = 1): the exchange of phase 1 of a read; `parc` is bit 15 as sent. -/
  | wireReadCmd (addr : Field14) (parc : Bool)
  /-- WIRE_WRITE_CMD (R64, RW = 0): the first exchange of a write. -/
  | wireWriteCmd (addr : Field14) (parc : Bool)
  /-- WIRE_NOP (R67): the exchange of phase 2 of a read. -/
  | wireNop
  /-- WIRE_DATA (R66): the second exchange of a write; `ef` is bit 14 and `pard` bit 15 as sent. -/
  | wireData (data : Field14) (ef pard : Bool)
  /-- READ_ANGLE (R136). -/
  | readAngle
  /-- WRITE_ZPOS m, l (R138). -/
  | writeZpos (m l : Frame)
  /-- WRITE_SETTINGS1 v (R141). -/
  | writeSettings1 (v : Frame)
  /-- WRITE_SETTINGS2 v (R142). -/
  | writeSettings2 (v : Frame)
  /-- READ_REGISTER addr (R143). -/
  | readRegister (addr : Frame)
  /-- WRITE_REGISTER addr, v (R143). -/
  | writeRegister (addr v : Frame)
deriving DecidableEq, Repr

end Sys2Proof
end

