-- ==== Sys2Proof/WellFormed.lean ====
section
/-! DEFINITION. What the types of Syntax and Config do not already ensure. Every request is well formed, an illegal
field descriptor included: it is a request that completes with BAD_FIELD (40_bitfield_codec.md R82). A frame the
block sends carries the parity bit P, and a sent data frame has EF = 0 (42_frame_codec.md R102, R105). -/

namespace Sys2Proof

/-- A command frame as sent: its bit 15 is P of the frame (R64, R105). -/
def commandParityOk (addr : Field14) (rw parc : Bool) : Bool :=
  parc == parityBit (packFrame false rw addr)

/-- A data frame as sent: EF = 0 and bit 15 is P of the frame (R66, R102, R105). -/
def sentDataOk (data : Field14) (ef pard : Bool) : Bool :=
  !ef && (pard == parityBit (packFrame false ef data))

/-- Well-formed instruction: the frames the block may send; every other row has no ill-formed operand. -/
def Instr.wellFormed : Instr → Bool
  | .parGen _ => true
  | .parChk _ => true
  | .cmdEnc _ _ => true
  | .datEnc _ => true
  | .frmDec _ => true
  | .fldGet _ _ => true
  | .fldSet _ _ _ => true
  | .angScl _ => true
  | .rdReg _ => true
  | .wrReg _ _ => true
  | .reservedA => true
  | .reservedB => true
  | .reservedC => true
  | .reservedD => true
  | .reservedE => true
  | .reservedF => true
  | .wireReadCmd addr parc => commandParityOk addr true parc
  | .wireWriteCmd addr parc => commandParityOk addr false parc
  | .wireNop => true
  | .wireData data ef pard => sentDataOk data ef pard
  | .readAngle => true
  | .writeZpos _ _ => true
  | .writeSettings1 _ => true
  | .writeSettings2 _ => true
  | .readRegister _ => true
  | .writeRegister _ _ => true

/-- Two fields of a layout share no bit (R90). -/
def LayoutField.disjoint (f g : LayoutField) : Bool :=
  decide (f.off + f.wid ≤ g.off ∨ g.off + g.wid ≤ f.off)

/-- One field's own bounds (R90): at least 1 bit, at most 14 unless it is a filler, inside the backing value. -/
def LayoutField.inBounds (w : Nat) (f : LayoutField) : Bool :=
  decide (1 ≤ f.wid) && (f.filler || decide (f.wid ≤ 14)) && decide (f.off + f.wid ≤ w)

/-- A well-formed `REG_LAYOUTS` entry (R90): fields in bounds, pairwise disjoint, their widths summing to the
entry's width, which is 8 or 16. -/
def RegLayout.wellFormed (l : RegLayout) : Bool :=
  (l.w == 8 || l.w == 16) && l.fields.all (LayoutField.inBounds l.w)
    && decide (l.fields.Pairwise fun f g => LayoutField.disjoint f g = true)
    && (l.fields.map LayoutField.wid).sum == l.w

end Sys2Proof
end

