-- ==== Sys2Proof/Decode.lean ====
section
/-! DEFINITION. From bits to instructions and back (30_encoding.md). A request word is decoded by its OP (R70, R80);
a 16-bit frame is decoded by its position in a transaction, since it carries no bit that says its kind (R63). -/

namespace Sys2Proof

/-- Bits with the place they are taken from: the request interface, or one of the four exchange positions of R113. -/
inductive Code where
  /-- A request word (R69). -/
  | request (w : Request)
  /-- The word sent in RD1. -/
  | readFirst (w : Frame)
  /-- The word sent in RD2. -/
  | readSecond (w : Frame)
  /-- The word sent in WR1. -/
  | writeFirst (w : Frame)
  /-- The word sent in WR2. -/
  | writeSecond (w : Frame)
deriving DecidableEq, Repr

/-- Why bits are no instruction. No request word and no wire word is illegal (R68, R80); these name a word that
cannot stand at its position of a transaction (R113), which no run of the block puts there. -/
inductive DecodeError where
  /-- RD1 holds a word with RW = 0. -/
  | notReadCommand
  /-- WR1 holds a word with RW = 1. -/
  | notWriteCommand
  /-- RD2 holds a word other than the NOP frame. -/
  | notNop
  /-- A number too large for the word it stands for. -/
  | tooWide
deriving DecidableEq, Repr

/-- OP = REQ[3:0] (R69). -/
def requestOp (w : Request) : BitVec 4 := w.extractLsb' 0 4

/-- A = REQ[19:4] (R69). -/
def requestA (w : Request) : Frame := w.extractLsb' 4 16

/-- B = REQ[35:20] (R69). -/
def requestB (w : Request) : Frame := w.extractLsb' 20 16

/-- C = REQ[45:36] (R69). -/
def requestC (w : Request) : BitVec 10 := w.extractLsb' 36 10

/-- REQ = (C << 36) | (B << 20) | (A << 4) | OP (R69, R78). -/
def requestWord (op : BitVec 4) (a b : Frame) (c : BitVec 10) : Request :=
  (c.setWidth 46 <<< 36) ||| (b.setWidth 46 <<< 20) ||| (a.setWidth 46 <<< 4) ||| op.setWidth 46

/-- The descriptor in C (R73). -/
def descOfC (c : BitVec 10) : FieldDesc where
  off := c.extractLsb' 0 4
  wid := c.extractLsb' 4 5
  bw := c.getLsbD 9

/-- C of a descriptor (R73): BW << 9 | WID << 4 | OFF. -/
def cOfDesc (d : FieldDesc) : BitVec 10 :=
  ((BitVec.ofBool d.bw).setWidth 10 <<< 9) ||| (d.wid.setWidth 10 <<< 4) ||| d.off.setWidth 10

/-- The row of R70 that OP selects, with the operand bits of R71; every other operand bit is ignored (R80). -/
def decodeRequest (w : Request) : Instr :=
  match (requestOp w).toNat with
  | 0 => .parGen (requestA w)
  | 1 => .parChk (requestA w)
  | 2 => .cmdEnc (frameLow (requestA w)) ((requestB w).getLsbD 0)
  | 3 => .datEnc (frameLow (requestA w))
  | 4 => .frmDec (requestA w)
  | 5 => .fldGet (requestA w) (descOfC (requestC w))
  | 6 => .fldSet (requestA w) (requestB w) (descOfC (requestC w))
  | 7 => .angScl (frameLow (requestA w))
  | 8 => .rdReg (frameLow (requestA w))
  | 9 => .wrReg (frameLow (requestA w)) (frameLow (requestB w))
  | 10 => .reservedA
  | 11 => .reservedB
  | 12 => .reservedC
  | 13 => .reservedD
  | 14 => .reservedE
  | _ => .reservedF

/-- A command frame read by its RW bit (R64, R65). -/
def decodeCommand (w : Frame) : Instr :=
  if frameBit14 w then .wireReadCmd (frameLow w) (frameBit15 w)
  else .wireWriteCmd (frameLow w) (frameBit15 w)

/-- A data frame (R66). -/
def decodeData (w : Frame) : Instr := .wireData (frameLow w) (frameBit14 w) (frameBit15 w)

/-- The decoder: total, by position (R63, R70, R113). -/
def decode : Code → Except DecodeError Instr
  | .request w => .ok (decodeRequest w)
  | .readFirst w => if frameBit14 w then .ok (decodeCommand w) else .error .notReadCommand
  | .readSecond w => if w = 0x4000#16 then .ok .wireNop else .error .notNop
  | .writeFirst w => if frameBit14 w then .error .notWriteCommand else .ok (decodeCommand w)
  | .writeSecond w => .ok (decodeData w)

/-- The word of an instruction and the position it stands at; a pseudo-operation has none (R77). Operand bits the
row ignores are 0 (R76). -/
def encode : Instr → Option Code
  | .parGen a => some (.request (requestWord 0 a 0 0))
  | .parChk a => some (.request (requestWord 1 a 0 0))
  | .cmdEnc addr rw => some (.request (requestWord 2 (addr.setWidth 16) ((BitVec.ofBool rw).setWidth 16) 0))
  | .datEnc data => some (.request (requestWord 3 (data.setWidth 16) 0 0))
  | .frmDec a => some (.request (requestWord 4 a 0 0))
  | .fldGet a d => some (.request (requestWord 5 a 0 (cOfDesc d)))
  | .fldSet a b d => some (.request (requestWord 6 a b (cOfDesc d)))
  | .angScl raw => some (.request (requestWord 7 (raw.setWidth 16) 0 0))
  | .rdReg addr => some (.request (requestWord 8 (addr.setWidth 16) 0 0))
  | .wrReg addr data => some (.request (requestWord 9 (addr.setWidth 16) (data.setWidth 16) 0))
  | .reservedA => some (.request (requestWord 10 0 0 0))
  | .reservedB => some (.request (requestWord 11 0 0 0))
  | .reservedC => some (.request (requestWord 12 0 0 0))
  | .reservedD => some (.request (requestWord 13 0 0 0))
  | .reservedE => some (.request (requestWord 14 0 0 0))
  | .reservedF => some (.request (requestWord 15 0 0 0))
  | .wireReadCmd addr parc => some (.readFirst (packFrame parc true addr))
  | .wireWriteCmd addr parc => some (.writeFirst (packFrame parc false addr))
  | .wireNop => some (.readSecond 0x4000#16)
  | .wireData data ef pard => some (.writeSecond (packFrame pard ef data))
  | .readAngle => none
  | .writeZpos _ _ => none
  | .writeSettings1 _ => none
  | .writeSettings2 _ => none
  | .readRegister _ => none
  | .writeRegister _ _ => none

/-- The bits of the opcode table's row as a number: a row of 16 bits is a wire frame, any other width is a request
word (log entry 8). -/
def tableWordIsFrame (nbits : Nat) : Bool := nbits == 16

/-- A wire word with no position given (log entry 8): the NOP frame, else a command frame by its RW bit. Every data
frame's word is also a command frame's (R63), so no word is read as a data frame here. -/
def decodeLooseFrame (w : Frame) : Instr :=
  if w = 0x4000#16 then .wireNop else decodeCommand w

/-- `decodeTableWord` with the reason a number is no instruction. -/
def decodeNumber (nbits w : Nat) : Except DecodeError Instr :=
  if tableWordIsFrame nbits then
    if w < 2 ^ 16 then .ok (decodeLooseFrame (BitVec.ofNat 16 w)) else .error .tooWide
  else if w < 2 ^ 46 then .ok (decodeRequest (BitVec.ofNat 46 w)) else .error .tooWide

/-- The instruction the decoder reads from a row's bits as spec/opcode_table.json numbers them. -/
def decodeTableWord (nbits w : Nat) : Option Instr :=
  match decodeNumber nbits w with
  | .ok i => some i
  | .error _ => none

end Sys2Proof
end

