-- ==== Sys2Proof/Machine/State.lean ====
section
/-! DEFINITION. The state of the block (10_state.md R21, R35), of its two interfaces (R28, 20_memory.md R47), and, as
the model's own fields, what the requester and the environment still have to do and what has passed on the bus
(00_scope.md R18; 92_eei_decisions.md D1: three agents). All plain data. -/

namespace Sys2Proof.Machine

/-- SEQ (R30): IDLE accepts a request; the others name the exchange the sequencer waits on. -/
inductive Seq where
  | idle | rd1 | rd2 | wr1 | wr2
deriving DecidableEq, Repr

/-- A 16-bit operand of a line (R76): a literal, or a result register whose value the requester copies. -/
inductive Operand where
  | lit (v : Frame)
  | rspFrame
  | rspVal
deriving DecidableEq, Repr

/-- One line of the requester's program (R76, R77): a request word as it is presented, an assembled line whose A
and B may be copied from a result register, or a pseudo-operation. -/
inductive Line where
  | word (req : Request)
  | asm (op : BitVec 4) (a b : Operand) (c : BitVec 10)
  | readAngle
  | writeZpos (m l : Operand)
  | writeSettings1 (v : Operand)
  | writeSettings2 (v : Operand)
  | readRegister (addr : Operand)
  | writeRegister (addr v : Operand)
deriving DecidableEq, Repr

/-- What the transport signals in one step (R47): nothing, the acknowledgement of the exchange the block is
waiting on with its received word, or the late acknowledgement of an exchange a reset abandoned (R167). -/
inductive Ack where
  | none
  | ack (rx : Frame)
  | late (rx : Frame)
deriving DecidableEq, Repr

/-- What the environment does in one step (R165): reset (R166), an exchange of another device on the bus (R160), and
the transport's signal. -/
structure EnvStep where
  reset : Bool
  foreign : Bool
  ack : Ack
deriving DecidableEq, Repr

/-- One event on the bus, as the record of a run keeps it (R52, R185). -/
inductive BusEvent where
  /-- An acknowledged exchange of this block: chip select, word sent, word received (R47). -/
  | exchange (cs : BitVec Config.csIdWidth) (tx rx : Frame)
  /-- An exchange of this block in flight when a reset abandoned it; it may still have finished (R167). -/
  | abandoned (cs : BitVec Config.csIdWidth) (tx : Frame)
  /-- An exchange of another device; `owned` is BUS_OWN as the step starts, so that `foreign true` is a failed duty of
  the platform (R160). -/
  | foreign (owned : Bool)
  /-- A reset cut off the transaction whose first frame is `command`: a read (R167) or, with RW = 0, a write (R168). -/
  | cut (command : Frame)
deriving DecidableEq, Repr

/-- The whole machine state. The first group is the block's (R21), the second its interface signals, the third the
model's own. -/
structure State where
  /-- CS_ID (R22). -/
  csId : BitVec Config.csIdWidth
  /-- SEQ (R30). -/
  seq : Seq
  /-- BUS_OWN (R31). -/
  busOwn : Bool
  /-- TX1 (R32). -/
  tx1 : Frame
  /-- TX2 (R32). -/
  tx2 : Frame
  /-- RSP_FRAME (R23). -/
  rspFrame : Frame
  /-- RSP_VAL (R24). -/
  rspVal : Value
  /-- RSP_PE (R25). -/
  rspPe : Bool
  /-- RSP_EF (R26). -/
  rspEf : Bool
  /-- RSP_ERR (R27). -/
  rspErr : BitVec 2
  /-- RSP_FRAME holds a value: something has written it since reset (R34). -/
  frameSet : Bool
  /-- RSP_VAL holds a value (R34). -/
  valSet : Bool
  /-- RSP_PE holds a value (R34). -/
  peSet : Bool
  /-- RSP_EF holds a value (R34). -/
  efSet : Bool
  /-- RSP_ERR holds a value (R34). -/
  errSet : Bool
  /-- Output rsp_valid (R28): high in the state a completing step leaves, low in every other. -/
  rspValid : Bool
  /-- Output xfer_req (R47). -/
  xferReq : Bool
  /-- Input xfer_ack (R47), as sampled for this step. -/
  xferAck : Bool
  /-- Input xfer_rx (R47), as sampled for this step. -/
  xferRx : Frame
  /-- Input reset (R166), as sampled for this step. -/
  resetIn : Bool
  /-- The model's own: the lines the requester has still to issue; the first is presented, or expanded where it is a
  pseudo-operation (R77, R165). -/
  program : List Line
  /-- The model's own: what the environment does in the steps to come; past its end it does nothing (R165). -/
  stimulus : List EnvStep
  /-- The model's own: the requester has used a result register that held no value. This is the error that R34 and I15
  have the model flag; once up it stays up, over resets too (log entry 1). -/
  noValueRead : Bool
  /-- The model's own: the bus events so far, oldest first (R52, R185). -/
  busLog : List BusEvent
deriving DecidableEq, Repr

/-- Why the machine stops with a fault: for no reason at all. The block raises no exception (60_exceptions.md R147), its
operations report what they find in RSP_PE, RSP_EF and RSP_ERR, and the one read the spec calls a fault, of a result
register that holds no value, goes on with that error flagged in `noValueRead` (R34; 93_implementation_defined.md I15,
whose `fault` is "the model flags an error and proves nothing after it"; log entry 1). -/
inductive Fault where
deriving DecidableEq, Repr

/-- Why there is no next state. -/
inductive Refusal where
  /-- An instruction with no meaning yet. Raised by exec's refused arms only. Safe. -/
  | notModelled (mnemonic : String)
  /-- A wire frame taken outside the SEQ state that sends it: a frame's kind is its position in a transaction
  (R63) and no such transition exists (R113). Raised by the meanings of the wire rows; `step` never calls them
  so. Safe. -/
  | frameOutOfPosition
  /-- A transmit latch holds a word that cannot stand at its position (a read command in RD1, the NOP frame in
  RD2, a write command in WR1). Raised by `step`, in states no run reaches. Safe. -/
  | latchNotItsFrame
deriving DecidableEq, Repr

/-- The machine right after reset (R35, R166): SEQ idle, BUS_OWN, xfer_req and rsp_valid low, CS_ID as constructed,
no result register holding a value of the spec's: each holds the uninterpreted constant of Config, its mark down (R34;
log entry 1). TX1, TX2 and the sampled inputs are 0 by choice (log entries 2, 13). Nothing is loaded into the requester
or the environment. -/
def State.reset : State where
  csId := Config.csId
  seq := .idle
  busOwn := false
  tx1 := 0
  tx2 := 0
  rspFrame := Config.resetRspFrame
  rspVal := Config.resetRspVal
  rspPe := Config.resetRspPe
  rspEf := Config.resetRspEf
  rspErr := Config.resetRspErr
  frameSet := false
  valSet := false
  peSet := false
  efSet := false
  errSet := false
  rspValid := false
  xferReq := false
  xferAck := false
  xferRx := 0
  resetIn := false
  program := []
  stimulus := []
  noValueRead := false
  busLog := []

end Sys2Proof.Machine
end

