-- ==== Sys2Proof/Machine/Operands.lean ====
section
/-! DEFINITION. Operand forms: the field descriptor and its extract and set (40_bitfield_codec.md), the frames built
from an address or data (42_frame_codec.md), the named registers and descriptors (20_memory.md R42,
40_bitfield_codec.md R92), the lines of the assembler and how the requester turns one into a request (30_encoding.md R76
to R78, 44_angle_and_facade.md R136 to R144). -/

namespace Sys2Proof

/-- The backing width W of a descriptor (R73, R81). -/
def FieldDesc.backing (d : FieldDesc) : Nat := if d.bw then 8 else 16

/-- A legal descriptor (R82): WID ≥ 1 and OFF + WID ≤ W. -/
def FieldDesc.legal (d : FieldDesc) : Bool :=
  decide (1 ≤ d.wid.toNat) && decide (d.off.toNat + d.wid.toNat ≤ d.backing)

/-- mask(w) (R13) as 16 bits. -/
def lowMask (w : Nat) : Frame := BitVec.ofNat 16 (2 ^ w - 1)

/-- The backing value a descriptor reads (R83, R86): A, or zext_16(A[7:0]). -/
def FieldDesc.raw (d : FieldDesc) (a : Frame) : Frame :=
  if d.bw then (a.extractLsb' 0 8).setWidth 16 else a

/-- The field of `a` (R83). -/
def FieldDesc.extract (d : FieldDesc) (a : Frame) : Frame :=
  (d.raw a >>> d.off.toNat) &&& lowMask d.wid.toNat

/-- `a` with its field replaced by `b` masked to the width (R84, R85, R86). -/
def FieldDesc.insert (d : FieldDesc) (a b : Frame) : Frame :=
  (d.raw a &&& ~~~(lowMask d.wid.toNat <<< d.off.toNat))
    ||| ((b &&& lowMask d.wid.toNat) <<< d.off.toNat)

/-- A frame's low 15 bits with P inserted as bit 15 (R95, R101, R102). -/
def withParity (lo : Frame) : Frame :=
  (lo &&& 0x7FFF#16) ||| ((BitVec.ofBool (parityBit lo)).setWidth 16 <<< 15)

/-- The command frame of an address, RW = 1 for a read (R64, R101). -/
def commandFrame (addr : Field14) (rw : Bool) : Frame :=
  withParity (addr.setWidth 16 ||| ((BitVec.ofBool rw).setWidth 16 <<< 14))

/-- The data frame to send, EF = 0 (R66, R102). -/
def dataFrame (data : Field14) : Frame := withParity (data.setWidth 16)

/-- The NOP frame (R67, R114). -/
def nopFrame : Frame := 0x4000#16

/-- raw * 45 at 20 bits: degrees in unsigned fixed point 9.11 (R131, R132). -/
def scaleAngle (raw : Field14) : Value := raw.setWidth 20 * 45#20

/-- The address of a named register (R42). -/
def RegName.address : RegName → Field14
  | .nop => 0x0000
  | .errfl => 0x0001
  | .prog => 0x0003
  | .zposm => 0x0016
  | .zposl => 0x0017
  | .settings1 => 0x0018
  | .settings2 => 0x0019
  | .diaagc => 0x3FFC
  | .mag => 0x3FFD
  | .angle => 0x3FFE
  | .anglecom => 0x3FFF

/-- The class of a named register (R41, R42). The block never reads it (R44). -/
def RegName.regClass : RegName → RegClass
  | .nop => .volatile
  | .errfl => .volatile
  | .prog => .volatile
  | .zposm => .nonVolatile
  | .zposl => .nonVolatile
  | .settings1 => .nonVolatile
  | .settings2 => .nonVolatile
  | .diaagc => .volatile
  | .mag => .volatile
  | .angle => .volatile
  | .anglecom => .volatile

/-- The named descriptors of R92. -/
inductive NamedField where
  | cmdAddr | cmdRw | cmdParc | dataData | dataEf | dataPard | angleAngle
  | zposmZposm | zposlZposl | zposlFlag6 | zposlFlag7 | settings1Value | settings2Value
deriving DecidableEq, Repr

/-- The descriptor of a name (R92). The offsets of the three ZPOSL rows are PRESUMED (log entry 16). -/
def NamedField.desc : NamedField → FieldDesc
  | .cmdAddr => ⟨0, 14, false⟩
  | .cmdRw => ⟨14, 1, false⟩
  | .cmdParc => ⟨15, 1, false⟩
  | .dataData => ⟨0, 14, false⟩
  | .dataEf => ⟨14, 1, false⟩
  | .dataPard => ⟨15, 1, false⟩
  | .angleAngle => ⟨0, 14, false⟩
  | .zposmZposm => ⟨0, 8, true⟩
  | .zposlZposl => ⟨0, 6, true⟩
  | .zposlFlag6 => ⟨6, 1, true⟩
  | .zposlFlag7 => ⟨7, 1, true⟩
  | .settings1Value => ⟨0, 8, true⟩
  | .settings2Value => ⟨0, 8, true⟩

/-- The descriptor a `REG_LAYOUTS` table gives a named field of a register (R89): it only names descriptors. The spec
does not say what a name stands for when its entry is not well formed (R90), or when the table lists the register or
the entry lists the field more than once: there it stands for no descriptor (DESIGN CHOICE, log entry 25). -/
def layoutDesc (table : List RegLayout) (r : RegName) (field : String) : Option FieldDesc :=
  match table.filter (fun l => l.reg == r) with
  | [l] =>
    match l.fields.filter (fun f => f.name == field) with
    | [f] => if l.wellFormed then some ⟨BitVec.ofNat 4 f.off, BitVec.ofNat 5 f.wid, l.w == 8⟩ else none
    | _ => none
  | _ => none

/-- `v & 0xFF`: a byte operand of a pseudo-operation (R144). -/
def byteOf (v : Frame) : Frame := v &&& 0x00FF#16

/-- The 14-bit zero position of the two bytes WRITE_ZPOS sends (R140). -/
def zeroPosition (m l : Frame) : Field14 :=
  ((m.extractLsb' 0 8).setWidth 14 <<< 6) ||| (l.extractLsb' 0 6).setWidth 14

namespace Machine

/-! The forms of R76 as lines; an operand the form does not name is 0. -/

/-- `PAR_GEN a` (R76). -/
def asmParGen (a : Operand) : Line := .asm 0 a (.lit 0) 0

/-- `PAR_CHK a` (R76). -/
def asmParChk (a : Operand) : Line := .asm 1 a (.lit 0) 0

/-- `CMD_ENC addr, READ` or `CMD_ENC addr, WRITE` (R76). -/
def asmCmdEnc (addr : Operand) (read : Bool) : Line :=
  .asm 2 addr (.lit ((BitVec.ofBool read).setWidth 16)) 0

/-- `DAT_ENC data` (R76). -/
def asmDatEnc (data : Operand) : Line := .asm 3 data (.lit 0) 0

/-- `FRM_DEC a` (R76). -/
def asmFrmDec (a : Operand) : Line := .asm 4 a (.lit 0) 0

/-- `FLD_GET a, off:wid` or `FLD_GET.8 a, off:wid` (R76). -/
def asmFldGet (a : Operand) (d : FieldDesc) : Line := .asm 5 a (.lit 0) (cOfDesc d)

/-- `FLD_SET a, v, off:wid` or `FLD_SET.8 a, v, off:wid` (R76). -/
def asmFldSet (a v : Operand) (d : FieldDesc) : Line := .asm 6 a v (cOfDesc d)

/-- `ANG_SCL a` (R76). -/
def asmAngScl (a : Operand) : Line := .asm 7 a (.lit 0) 0

/-- `RD_REG addr` (R76). -/
def asmRdReg (addr : Operand) : Line := .asm 8 addr (.lit 0) 0

/-- `WR_REG addr, data` (R76). -/
def asmWrReg (addr data : Operand) : Line := .asm 9 addr data 0

/-- A register name in place of a literal stands for its address (R76). -/
def Operand.reg (r : RegName) : Operand := .lit (r.address.setWidth 16)

/-- What reading a result register gives: its bits, and the error R34 has the model flag, "the register holds no
value" (93_implementation_defined.md I15). -/
structure Reading (α : Type) where
  value : α
  noValue : Bool
deriving DecidableEq, Repr

/-- The requester reads RSP_FRAME (R34, R165). After a reset its bits are uninterpreted, and the error is flagged. -/
def State.readRspFrame (s : State) : Reading Frame := ⟨s.rspFrame, !s.frameSet⟩

/-- The requester reads RSP_VAL (R34, R165). -/
def State.readRspVal (s : State) : Reading Value := ⟨s.rspVal, !s.valSet⟩

/-- The requester reads RSP_PE (R34, R165). -/
def State.readRspPe (s : State) : Reading Bool := ⟨s.rspPe, !s.peSet⟩

/-- The requester reads RSP_EF (R34, R165). -/
def State.readRspEf (s : State) : Reading Bool := ⟨s.rspEf, !s.efSet⟩

/-- The requester reads RSP_ERR (R34, R165). -/
def State.readRspErr (s : State) : Reading (BitVec 2) := ⟨s.rspErr, !s.errSet⟩

/-- What an operand gives; RSP_VAL gives RSP_VAL[15:0] (R76, R136; log entry 10). -/
def Operand.reading (s : State) : Operand → Reading Frame
  | .lit v => ⟨v, false⟩
  | .rspFrame => s.readRspFrame
  | .rspVal => ⟨s.readRspVal.value.extractLsb' 0 16, s.readRspVal.noValue⟩

/-- An operand's 16 bits. -/
def Operand.value (s : State) (o : Operand) : Frame := (o.reading s).value

/-- A line that is a request on the request interface. A pseudo-operation has no OP value (R77): in the step that
expands it the requester presents no request word (DESIGN CHOICE, log entry 7). -/
def Line.presentsRequest : Line → Bool
  | .word _ => true
  | .asm _ _ _ _ => true
  | .readAngle => false
  | .writeZpos _ _ => false
  | .writeSettings1 _ => false
  | .writeSettings2 _ => false
  | .readRegister _ => false
  | .writeRegister _ _ => false

/-- The operands of a line, in the order R76 and R77 write them. -/
def Line.operands : Line → List Operand
  | .word _ => []
  | .asm _ a b _ => [a, b]
  | .readAngle => []
  | .writeZpos m l => [m, l]
  | .writeSettings1 v => [v]
  | .writeSettings2 v => [v]
  | .readRegister addr => [addr]
  | .writeRegister addr v => [addr, v]

/-- Some operand of the line copies a register that holds no value: the error R34 has the model flag. -/
def Line.copiesNoValue (s : State) (line : Line) : Bool := line.operands.any fun o => (o.reading s).noValue

/-- The operand is a literal, so that its bits depend on no register. -/
def Operand.isLiteral : Operand → Bool
  | .lit _ => true
  | .rspFrame => false
  | .rspVal => false

/-- The instruction a line presents in state `s`: its request word decoded (R78, R80), or its pseudo-operation. The
operands of a pseudo-operation that copy a result register are copied here, in the step that expands it (the spec does
not say when; DESIGN CHOICE, log entry 7). -/
def Line.issue (s : State) : Line → Instr
  | .word req => decodeRequest req
  | .asm op a b c => decodeRequest (requestWord op (a.value s) (b.value s) c)
  | .readAngle => .readAngle
  | .writeZpos m l => .writeZpos (m.value s) (l.value s)
  | .writeSettings1 v => .writeSettings1 (v.value s)
  | .writeSettings2 v => .writeSettings2 (v.value s)
  | .readRegister addr => .readRegister (addr.value s)
  | .writeRegister addr v => .writeRegister (addr.value s) (v.value s)

end Machine

end Sys2Proof
end

