-- ==== Sys2Proof/Machine/Ops.lean ====
section
/-! DEFINITION. The named operations every meaning is written with: writing a result register, completing an operation
(10_state.md R28), accepting a request (43_sequencer.md R112), starting and ending an exchange (20_memory.md R47,
43_sequencer.md R113), the reset (70_reset_and_hazards.md R166 to R169) and the sampling of the inputs. The block
takes no exception and returns from none (60_exceptions.md R147, R154), so there is no operation for either. -/

namespace Sys2Proof.Machine

/-- `RSP_FRAME <- v`. -/
def State.setRspFrame (v : Frame) (s : State) : State := { s with rspFrame := v, frameSet := true }

/-- `RSP_VAL <- v`. -/
def State.setRspVal (v : Value) (s : State) : State := { s with rspVal := v, valSet := true }

/-- `RSP_PE <- b`. -/
def State.setRspPe (b : Bool) (s : State) : State := { s with rspPe := b, peSet := true }

/-- `RSP_EF <- b`. -/
def State.setRspEf (b : Bool) (s : State) : State := { s with rspEf := b, efSet := true }

/-- `complete(code)` (R15, R28): RSP_ERR <- code, SEQ to IDLE, rsp_valid raised. -/
def State.complete (code : BitVec 2) (s : State) : State :=
  { s with rspErr := code, errSet := true, seq := .idle, rspValid := true }

/-- The end of a transaction's second exchange (R47, R113): xfer_req falls and BUS_OWN <- 0. -/
def State.releaseBus (s : State) : State := { s with busOwn := false, xferReq := false }

/-- Status OK (R27). -/
def statusOk : BitVec 2 := 0

/-- Status RESERVED_OP (R27, R72). -/
def statusReservedOp : BitVec 2 := 1

/-- Status BAD_FIELD (R27, R82). -/
def statusBadField : BitVec 2 := 2

/-- req_ready (R28). -/
def State.reqReady (s : State) : Bool := s.seq == .idle

/-- req_valid (R28) in a step whose inputs are sampled. It is 0 with no line left, and while a pseudo-operation stands
first: the requester expands it and presents no request word (R77; DESIGN CHOICE, log entry 7). A line of literals is
presented until it is accepted. A line that copies a result register is presented only in the step that accepts it, so
that no presented word ever changes (R165; DESIGN CHOICE, log entry 5). -/
def State.reqValid (s : State) : Bool :=
  match s.program with
  | [] => false
  | line :: _ =>
    line.presentsRequest &&
      (line.operands.all Operand.isLiteral || (s.reqReady && !s.resetIn))

/-- xfer_cs (R47): always CS_ID. -/
def State.xferCs (s : State) : BitVec Config.csIdWidth := s.csId

/-- xfer_tx (R47, R113): the word of the exchange in progress, none in IDLE. -/
def State.xferTx (s : State) : Option Frame :=
  match s.seq with
  | .idle => none
  | .rd1 => some s.tx1
  | .rd2 => some s.tx2
  | .wr1 => some s.tx1
  | .wr2 => some s.tx2

/-- The word of the exchange in progress with its position (R63, R113). -/
def State.frameOnBus (s : State) : Option Code :=
  match s.seq with
  | .idle => none
  | .rd1 => some (.readFirst s.tx1)
  | .rd2 => some (.readSecond s.tx2)
  | .wr1 => some (.writeFirst s.tx1)
  | .wr2 => some (.writeSecond s.tx2)

/-- A request is performed when req_ready is 1; otherwise it is held by the requester and the block does nothing
with it (R28, R112). -/
def State.perform (f : State → State) (s : State) : Host.Outcome State Fault Refusal :=
  .next (if s.reqReady then f s else s)

/-- Accepting RD_REG or WR_REG (R113): both frames latched, the bus taken, the first exchange started. -/
def State.startTransaction (first : Seq) (t1 t2 : Frame) (s : State) : State :=
  { s with seq := first, tx1 := t1, tx2 := t2, busOwn := true, xferReq := true }

/-- An acknowledged exchange of `tx` enters the record of the run with the word received (R47, R185). -/
def State.recordExchange (tx : Frame) (s : State) : State :=
  { s with busLog := s.busLog ++ [.exchange s.xferCs tx s.xferRx] }

/-- The second exchange starts in the step that ends the first (R113): xfer_req stays up. -/
def State.startSecond (second : Seq) (s : State) : State := { s with seq := second }

/-- The exchange of `tx` in SEQ state `pos` (R47, R113): with xfer_ack it ends, is recorded and `k` follows; without,
the block is held (R50); in another SEQ state the row does not apply (R63). -/
def State.exchange (pos : Seq) (tx : Frame) (k : State → State) (s : State) :
    Host.Outcome State Fault Refusal :=
  if s.seq = pos then
    if s.xferAck then .next (k (s.recordExchange tx)) else .next s
  else .refused .frameOutOfPosition

/-- The results of a decoded data frame (R103, R118): RSP_FRAME, RSP_VAL, RSP_EF and RSP_PE. -/
def State.loadDataFrame (f : Frame) (s : State) : State :=
  (((s.setRspFrame f).setRspVal ((frameLow f).setWidth 20)).setRspEf (errorFlag f)).setRspPe (parityFault f)

/-- The requester puts the expansion of a pseudo-operation before its remaining lines (R77). An operand of the
pseudo-operation stands in them as the literal copied when it was expanded (DESIGN CHOICE, log entry 7). -/
def State.issueFirst (lines : List Line) (s : State) : State := { s with program := lines ++ s.program }

/-- Whether the transport's signal acknowledges the exchange the block waits on; a late one does not (R167). -/
def Ack.answers : Ack → Bool
  | .none => false
  | .ack _ => true
  | .late _ => false

/-- xfer_rx under the transport's signal; without an acknowledgement the line keeps what it had (log entry 13). -/
def Ack.word (old : Frame) : Ack → Frame
  | .none => old
  | .ack rx => rx
  | .late _ => old

/-- The bus record after a step's foreign traffic, BUS_OWN being `owned` (R160). -/
def recordForeign (foreign owned : Bool) (log : List BusEvent) : List BusEvent :=
  if foreign then log ++ [.foreign owned] else log

/-- The start of a step: rsp_valid falls (R28) and the inputs of this step are sampled; past the end of the stimulus
no input is raised (log entry 6). The spec gives no order of a foreign exchange and the block's own event within one
step: the foreign one is recorded first, with BUS_OWN as the step starts (R160, R173; DESIGN CHOICE, log entry 18). -/
def State.sampleInputs (s : State) : State :=
  match s.stimulus with
  | [] => { s with rspValid := false, xferAck := false, resetIn := false }
  | e :: rest =>
    { s with
      rspValid := false
      xferAck := e.ack.answers
      xferRx := e.ack.word s.xferRx
      resetIn := e.reset
      stimulus := rest
      busLog := recordForeign e.foreign s.busOwn s.busLog }

/-- What a reset leaves in the bus record (R167, R168): the exchange in flight, ended if it is acknowledged in this
very step and abandoned otherwise (log entry 12), and the transaction cut off. -/
def State.recordReset (s : State) : List BusEvent :=
  match s.xferTx with
  | none => s.busLog
  | some tx =>
    if s.xferAck then s.busLog ++ [.exchange s.xferCs tx s.xferRx, .cut s.tx1]
    else s.busLog ++ [.abandoned s.xferCs tx, .cut s.tx1]

/-- The reset of the block (R166 to R169): every register of the block as after reset, the result registers holding
Config's uninterpreted constants with their marks down (R34; log entry 1), CS_ID kept, no exchange started. The requester, the environment and the sampled inputs are not the block's: the requester's lines not yet
accepted, the rest of a pseudo-operation's expansion among them, stay and are issued after the reset (the spec does not
say what a requester does with them; DESIGN CHOICE, log entry 26). -/
def State.applyReset (s : State) : State :=
  { s with
    seq := .idle
    busOwn := false
    tx1 := 0
    tx2 := 0
    rspFrame := Config.resetRspFrame
    rspVal := Config.resetRspVal
    rspPe := Config.resetRspPe
    rspEf := Config.resetRspEf
    rspErr := Config.resetRspErr
    frameSet := false
    valSet := false
    peSet := false
    efSet := false
    errSet := false
    rspValid := false
    xferReq := false
    busLog := s.recordReset }

end Sys2Proof.Machine
end

