-- ==== Sys2Proof/Machine/Angle.lean ====
section
/-! DEFINITION. ANG_SCL (44_angle_and_facade.md R131). -/

namespace Sys2Proof.Machine

/-- ANG_SCL (R131). -/
def execAngScl (raw : Field14) (s : State) : Host.Outcome State Fault Refusal :=
  s.perform fun s => (s.setRspVal (scaleAngle raw)).complete statusOk

end Sys2Proof.Machine
end

