-- ==== Sys2Proof/Machine/BitField.lean ====
section
/-! DEFINITION. FLD_GET and FLD_SET (40_bitfield_codec.md R82 to R86). -/

namespace Sys2Proof.Machine

/-- FLD_GET (R83); an illegal descriptor completes with BAD_FIELD and writes nothing else (R82). -/
def execFldGet (a : Frame) (d : FieldDesc) (s : State) : Host.Outcome State Fault Refusal :=
  s.perform fun s =>
    if d.legal then (s.setRspVal ((d.extract a).setWidth 20)).complete statusOk
    else s.complete statusBadField

/-- FLD_SET (R84); an illegal descriptor completes with BAD_FIELD and writes nothing else (R82). -/
def execFldSet (a b : Frame) (d : FieldDesc) (s : State) : Host.Outcome State Fault Refusal :=
  s.perform fun s =>
    if d.legal then (s.setRspFrame (d.insert a b)).complete statusOk
    else s.complete statusBadField

end Sys2Proof.Machine
end

