-- ==== Sys2Proof/Machine/Facade.lean ====
section
/-! DEFINITION. The pseudo-operations (44_angle_and_facade.md R136 to R144): fixed sequences of the block's operations
that the requester issues. The meaning of one is its expansion, put before the requester's remaining lines; the
block itself does nothing in that step, and the operands `m`, `l`, `v` and `addr` are the bits the requester copied in
it, so that the expanded lines hold literals (DESIGN CHOICE, log entry 7). -/

namespace Sys2Proof.Machine

/-- READ_ANGLE (R136). -/
def execReadAngle (s : State) : Host.Outcome State Fault Refusal :=
  .next (s.issueFirst [asmRdReg (.reg .angle), asmAngScl .rspVal])

/-- WRITE_ZPOS m, l (R138), its operands copied at the expansion (log entry 7). -/
def execWriteZpos (m l : Frame) (s : State) : Host.Outcome State Fault Refusal :=
  .next (s.issueFirst
    [asmWrReg (.reg .zposm) (.lit (byteOf m)), asmWrReg (.reg .zposl) (.lit (byteOf l))])

/-- WRITE_SETTINGS1 v (R141), its operand copied at the expansion (log entry 7). -/
def execWriteSettings1 (v : Frame) (s : State) : Host.Outcome State Fault Refusal :=
  .next (s.issueFirst [asmWrReg (.reg .settings1) (.lit (byteOf v))])

/-- WRITE_SETTINGS2 v (R142), its operand copied at the expansion (log entry 7). -/
def execWriteSettings2 (v : Frame) (s : State) : Host.Outcome State Fault Refusal :=
  .next (s.issueFirst [asmWrReg (.reg .settings2) (.lit (byteOf v))])

/-- READ_REGISTER addr (R143), its operand copied at the expansion (log entry 7). -/
def execReadRegister (addr : Frame) (s : State) : Host.Outcome State Fault Refusal :=
  .next (s.issueFirst [asmRdReg (.lit addr)])

/-- WRITE_REGISTER addr, v (R143), its operands copied at the expansion (log entry 7). -/
def execWriteRegister (addr v : Frame) (s : State) : Host.Outcome State Fault Refusal :=
  .next (s.issueFirst [asmWrReg (.lit addr) (.lit v)])

end Sys2Proof.Machine
end

