-- ==== Sys2Proof/Machine/FrameCodec.lean ====
section
/-! DEFINITION. CMD_ENC, DAT_ENC and FRM_DEC (42_frame_codec.md R101 to R103). -/

namespace Sys2Proof.Machine

/-- CMD_ENC (R101). -/
def execCmdEnc (addr : Field14) (rw : Bool) (s : State) : Host.Outcome State Fault Refusal :=
  s.perform fun s => (s.setRspFrame (commandFrame addr rw)).complete statusOk

/-- DAT_ENC (R102). -/
def execDatEnc (data : Field14) (s : State) : Host.Outcome State Fault Refusal :=
  s.perform fun s => (s.setRspFrame (dataFrame data)).complete statusOk

/-- FRM_DEC (R103): status 0 whatever the flags. -/
def execFrmDec (a : Frame) (s : State) : Host.Outcome State Fault Refusal :=
  s.perform fun s => (s.loadDataFrame a).complete statusOk

end Sys2Proof.Machine
end

