-- ==== Sys2Proof/Machine/Parity.lean ====
section
/-! DEFINITION. PAR_GEN and PAR_CHK (41_parity.md R95, R96). -/

namespace Sys2Proof.Machine

/-- PAR_GEN (R95): P in RSP_VAL, the frame with P as bit 15 in RSP_FRAME. -/
def execParGen (a : Frame) (s : State) : Host.Outcome State Fault Refusal :=
  s.perform fun s =>
    ((s.setRspVal ((BitVec.ofBool (parityBit a)).setWidth 20)).setRspFrame (withParity a)).complete statusOk

/-- PAR_CHK (R96): P in RSP_VAL, the parity fault in RSP_PE. -/
def execParChk (a : Frame) (s : State) : Host.Outcome State Fault Refusal :=
  s.perform fun s =>
    ((s.setRspVal ((BitVec.ofBool (parityBit a)).setWidth 20)).setRspPe (parityFault a)).complete statusOk

end Sys2Proof.Machine
end

