-- ==== Sys2Proof/Machine/Reserved.lean ====
section
/-! DEFINITION. The reserved opcodes 0xA to 0xF (30_encoding.md R72): accepted and completed with RESERVED_OP. -/

namespace Sys2Proof.Machine

/-- OP 0xA (R72). -/
def execReservedA (s : State) : Host.Outcome State Fault Refusal :=
  s.perform (State.complete statusReservedOp)

/-- OP 0xB (R72). -/
def execReservedB (s : State) : Host.Outcome State Fault Refusal :=
  s.perform (State.complete statusReservedOp)

/-- OP 0xC (R72). -/
def execReservedC (s : State) : Host.Outcome State Fault Refusal :=
  s.perform (State.complete statusReservedOp)

/-- OP 0xD (R72). -/
def execReservedD (s : State) : Host.Outcome State Fault Refusal :=
  s.perform (State.complete statusReservedOp)

/-- OP 0xE (R72). -/
def execReservedE (s : State) : Host.Outcome State Fault Refusal :=
  s.perform (State.complete statusReservedOp)

/-- OP 0xF (R72). -/
def execReservedF (s : State) : Host.Outcome State Fault Refusal :=
  s.perform (State.complete statusReservedOp)

end Sys2Proof.Machine
end

