-- ==== Sys2Proof/Machine/Sequencer.lean ====
section
/-! DEFINITION. RD_REG and WR_REG (43_sequencer.md R114, R119), and the rows of the frames they put on the wire, whose
meaning is the exchange of that frame at its position in the transaction (R113; log entry 9). -/

namespace Sys2Proof.Machine

/-- RD_REG (R114): accepted, with the read command frame and the NOP frame latched and RD1 started. -/
def execRdReg (addr : Field14) (s : State) : Host.Outcome State Fault Refusal :=
  s.perform (State.startTransaction .rd1 (commandFrame addr true) nopFrame)

/-- WR_REG (R119): accepted, with the write command frame and the data frame latched and WR1 started. -/
def execWrReg (addr data : Field14) (s : State) : Host.Outcome State Fault Refusal :=
  s.perform (State.startTransaction .wr1 (commandFrame addr false) (dataFrame data))

/-- WIRE_READ_CMD: phase 1 of a read (R113, RD1); the received word is discarded (R117). -/
def execWireReadCmd (addr : Field14) (parc : Bool) (s : State) : Host.Outcome State Fault Refusal :=
  s.exchange .rd1 (packFrame parc true addr) (State.startSecond .rd2)

/-- WIRE_NOP: phase 2 of a read (R113, RD2); the received word is the result (R118). -/
def execWireNop (s : State) : Host.Outcome State Fault Refusal :=
  s.exchange .rd2 nopFrame fun s => (s.loadDataFrame s.xferRx).releaseBus.complete statusOk

/-- WIRE_WRITE_CMD: the first exchange of a write (R113, WR1); the received word is discarded (R120). -/
def execWireWriteCmd (addr : Field14) (parc : Bool) (s : State) : Host.Outcome State Fault Refusal :=
  s.exchange .wr1 (packFrame parc false addr) (State.startSecond .wr2)

/-- WIRE_DATA: the second exchange of a write (R113, WR2); the received word is discarded (R120). -/
def execWireData (data : Field14) (ef pard : Bool) (s : State) : Host.Outcome State Fault Refusal :=
  s.exchange .wr2 (packFrame pard ef data) fun s => s.releaseBus.complete statusOk

end Sys2Proof.Machine
end

