-- ==== Sys2Proof/Machine/Dispatch.lean ====
section
/-! DEFINITION. One arm per row of spec/opcode_table.json. -/

namespace Sys2Proof.Machine

def exec (i : Instr) (s : State) : Host.Outcome State Fault Refusal :=
  match i with
  | .parGen a => Sys2Proof.Machine.execParGen a s
  | .parChk a => Sys2Proof.Machine.execParChk a s
  | .cmdEnc addr rw => Sys2Proof.Machine.execCmdEnc addr rw s
  | .datEnc data => Sys2Proof.Machine.execDatEnc data s
  | .frmDec a => Sys2Proof.Machine.execFrmDec a s
  | .fldGet a d => Sys2Proof.Machine.execFldGet a d s
  | .fldSet a b d => Sys2Proof.Machine.execFldSet a b d s
  | .angScl raw => Sys2Proof.Machine.execAngScl raw s
  | .rdReg addr => Sys2Proof.Machine.execRdReg addr s
  | .wrReg addr data => Sys2Proof.Machine.execWrReg addr data s
  | .reservedA => Sys2Proof.Machine.execReservedA s
  | .reservedB => Sys2Proof.Machine.execReservedB s
  | .reservedC => Sys2Proof.Machine.execReservedC s
  | .reservedD => Sys2Proof.Machine.execReservedD s
  | .reservedE => Sys2Proof.Machine.execReservedE s
  | .reservedF => Sys2Proof.Machine.execReservedF s
  | .wireReadCmd addr parc => Sys2Proof.Machine.execWireReadCmd addr parc s
  | .wireWriteCmd addr parc => Sys2Proof.Machine.execWireWriteCmd addr parc s
  | .wireNop => Sys2Proof.Machine.execWireNop s
  | .wireData data ef pard => Sys2Proof.Machine.execWireData data ef pard s
  | .readAngle => Sys2Proof.Machine.execReadAngle s
  | .writeZpos m l => Sys2Proof.Machine.execWriteZpos m l s
  | .writeSettings1 v => Sys2Proof.Machine.execWriteSettings1 v s
  | .writeSettings2 v => Sys2Proof.Machine.execWriteSettings2 v s
  | .readRegister addr => Sys2Proof.Machine.execReadRegister addr s
  | .writeRegister addr v => Sys2Proof.Machine.execWriteRegister addr v s

end Sys2Proof.Machine
end

