-- ==== Sys2Proof/Machine/Fetch.lean ====
section
/-! DEFINITION. Where the next instruction comes from (10_state.md R28, R30; 43_sequencer.md R112, R113): in IDLE the
requester's first line, otherwise the frame of the exchange in progress. The block itself fetches nothing
(20_memory.md R62). -/

namespace Sys2Proof.Machine

/-- What a step finds to run. -/
inductive Fetched where
  /-- No line is presented in IDLE. -/
  | nothing
  /-- The instruction, with the state it runs in. -/
  | instr (i : Instr) (s : State)
  /-- The frame in progress does not stand at its position. -/
  | refusal (r : Refusal)
deriving DecidableEq, Repr

/-- In IDLE the requester's first line is issued and leaves the program (R28, R112); where it copies a register that
holds no value, the error is flagged (R34, I15). -/
def State.fetchLine (s : State) : Fetched :=
  match s.program with
  | [] => .nothing
  | line :: rest =>
    .instr (line.issue s) { s with program := rest, noValueRead := s.noValueRead || line.copiesNoValue s }

/-- The frame of an exchange in progress, as the row at its position (R63, R113). -/
def fetchFrame (c : Code) (s : State) : Fetched :=
  match decode c with
  | .error _ => .refusal .latchNotItsFrame
  | .ok i => .instr i s

/-- What the step runs: a request presented while SEQ is not IDLE waits (R112). -/
def State.fetch (s : State) : Fetched :=
  match s.frameOnBus with
  | none => s.fetchLine
  | some c => fetchFrame c s

/-- A step of the environment that raises no input. -/
def quietStep : EnvStep := ⟨false, false, .none⟩

/-- A step of the environment in which the transport acknowledges with `rx`. -/
def ackStep (rx : Frame) : EnvStep := ⟨false, false, .ack rx⟩

/-- `s` with the request word `w` presented in the next step, SEQ being IDLE and no input raised (log entry 8). -/
def State.presentRequest (w : Request) (s : State) : State :=
  { s with
    seq := .idle
    busOwn := false
    xferReq := false
    program := .word w :: s.program
    stimulus := quietStep :: s.stimulus }

/-- `s` with the frame `w` as the exchange in progress at its position, acknowledged in the next step (log entry 8). -/
def State.presentFrame (w : Frame) (s : State) : State :=
  if w = nopFrame then
    { s with
      seq := .rd2, busOwn := true, xferReq := true, tx2 := w, stimulus := ackStep 0 :: s.stimulus }
  else
    { s with
      seq := if frameBit14 w then .rd1 else .wr1
      busOwn := true, xferReq := true, tx1 := w, stimulus := ackStep 0 :: s.stimulus }

/-- `s` with a row's bits stored where the next step takes its instruction from; a number too large for its row
changes nothing. -/
def State.present (nbits w : Nat) (s : State) : State :=
  match decodeNumber nbits w with
  | .error _ => s
  | .ok _ =>
    if tableWordIsFrame nbits then s.presentFrame (BitVec.ofNat 16 w)
    else s.presentRequest (BitVec.ofNat 46 w)

end Sys2Proof.Machine
end

