-- ==== Sys2Proof/Machine/Step.lean ====
section
/-! DEFINITION. One step of the three agents (92_eei_decisions.md D1): the inputs are sampled, a reset wins
(70_reset_and_hazards.md R166), and otherwise the operation presented in IDLE is performed or the exchange in
progress is started, advanced or ended. -/

namespace Sys2Proof.Machine

/-- One step. With nothing to run the block stays as it is (R113, R164). -/
def step (s : State) : Host.Outcome State Fault Refusal :=
  if s.sampleInputs.resetIn then .next s.sampleInputs.applyReset
  else
    match s.sampleInputs.fetch with
    | .nothing => .next s.sampleInputs
    | .instr i t => exec i t
    | .refusal r => .refused r

/-- `s` with a row's bits stored where `step` takes its next instruction from (log entry 8). -/
def State.withFetchWord (s : State) (nbits w : Nat) : State := s.present nbits w

end Sys2Proof.Machine
end

