-- ==== Sys2Proof/Machine/Environment.lean ====
section
/-! DEFINITION. The parameter SENSOR (20_memory.md R52) and its pipeline contract (R53), with the two environments of
95_test_vectors.md section 1 (92_eei_decisions.md D27). No rule of the block reads any of it: the words a sensor
gives reach the machine through the stimulus. -/

namespace Sys2Proof.Machine

/-- The bit of a frame that the transport puts k-th on the wire (R57, `WIRE_ORDER`). It belongs to the transport; no
rule of the block reads it. -/
def wireBit (f : Frame) (k : Fin 16) : Bool := f.getLsbD (Config.wireOrder k)

/-- SENSOR (R52): from the words this block has sent, in order, and a free choice, the 16 bits received in the
next exchange. -/
structure Sensor where
  respond : List Frame → Nat → Frame

/-- The word of one bus event that went to this block's sensor and was acknowledged. -/
def BusEvent.sent : BusEvent → List Frame
  | .exchange _ tx _ => [tx]
  | .abandoned _ _ => []
  | .foreign _ => []
  | .cut _ => []

/-- The words sent and acknowledged, in order (R52). -/
def sentWords (log : List BusEvent) : List Frame := log.flatMap BusEvent.sent

/-- Whether the platform failed its duty during the exchange that ends the record: while the block waited for it, other
traffic came under BUS_OWN (R160). `earlier` is the record before that exchange. -/
def intruded (earlier : List BusEvent) : Bool :=
  match earlier.getLast? with
  | some (.foreign owned) => owned
  | some (.exchange _ _ _) => false
  | some (.abandoned _ _) => false
  | some (.cut _) => false
  | none => false

/-- Whether the next exchange directly follows an acknowledged exchange of this block that nothing intruded on, as R53
and R160 ask. After other traffic, after an exchange under which other traffic came, so that the phase-2 word is any
value (R160; 93_implementation_defined.md I18), and after a transaction a reset broke off (R167, R168), the next word
is unconstrained. -/
def adjacent (log : List BusEvent) : Bool :=
  match log.getLast? with
  | some (.exchange _ _ _) => !intruded log.dropLast
  | some (.abandoned _ _) => false
  | some (.foreign _) => false
  | some (.cut _) => false
  | none => true

/-- The words one event may add to the sensor's history (R52): an acknowledged exchange its word; an abandoned exchange
its word or nothing, since the transport may still finish it (R167). A read that a reset cut off adds nothing more, so
that a later read is unaffected (R167). A write that a reset cut off leaves the addressed register unconstrained
(R168), so any words at all may stand there (log entry 23). -/
def BusEvent.adds (ws : List Frame) : BusEvent → Prop
  | .exchange _ tx _ => ws = [tx]
  | .abandoned _ tx => ws = [] ∨ ws = [tx]
  | .foreign _ => ws = []
  | .cut command => frameBit14 command = true → ws = []

/-- `sent` is a history the sensor may have after the record: for each event in order, words that it may add. -/
def PossibleHistory : List BusEvent → List Frame → Prop
  | [], sent => sent = []
  | e :: log, sent => ∃ ws later, e.adds ws ∧ PossibleHistory log later ∧ sent = ws ++ later

/-- `rx` is a word the sensor may give in the next exchange (R52 to R54, R160). -/
def Sensor.mayAnswer (S : Sensor) (log : List BusEvent) (rx : Frame) : Prop :=
  adjacent log = true → ∃ sent choice, PossibleHistory log sent ∧ rx = S.respond sent choice

/-- The pipeline contract (R53): after a history `sent` and the read command for `a` the next word is the sensor's data
frame for register `a`, `frameOf a`. What that frame holds is the sensor's (R46, R55), so `frameOf` may depend on the
history and on a free choice, and the contract says which register's frame comes back and when, not what it holds
(log entry 15). -/
def Sensor.Pipelined (S : Sensor) (frameOf : Field14 → List Frame → Nat → Frame) : Prop :=
  ∀ sent a choice, S.respond (sent ++ [commandFrame a true]) choice = frameOf a sent choice

/-- ECHO (95_test_vectors.md section 1): answers with the word received before, 0x0000 first. -/
def echoSensor : Sensor where
  respond := fun sent _ => (sent.getLast?).getD 0

/-- The state of IPS (95_test_vectors.md section 1): REG, PEND and WA. -/
structure IdealState where
  reg : Field14 → Field14
  pend : Frame
  wa : Option Field14

/-- IPS on receiving `w` (95_test_vectors.md section 1). -/
def IdealState.receive (i : IdealState) (w : Frame) : IdealState :=
  match i.wa with
  | some a => ⟨fun x => if x = a then frameLow w else i.reg x, 0, none⟩
  | none =>
    if frameBit14 w then ⟨i.reg, withParity ((i.reg (frameLow w)).setWidth 16), none⟩
    else ⟨i.reg, 0, some (frameLow w)⟩

/-- IPS started with the registers `reg` and PEND = 0x0000. -/
def idealSensor (reg : Field14 → Field14) : Sensor where
  respond := fun sent _ => (sent.foldl IdealState.receive ⟨reg, 0, none⟩).pend

end Sys2Proof.Machine
end

