-- ==== Sys2Proof/Safety.lean ====
section
/-! DEFINITION. What the statements speak of: the invariant of the block's state, the result registers as one value,
and one step followed by another. -/

namespace Sys2Proof.Machine

/-- A word with an odd number of 1 bits, as every frame the block sends (R97, R105). -/
def OddFrame (f : Frame) : Prop := popcount f % 2 = 1

/-- The latches hold the two frames of the transaction in progress (R32, R113): a read command and the NOP frame, or
a write command and a data frame with EF = 0, each with odd parity (R105). In IDLE they are not observable (R32). -/
def State.LatchesOk (s : State) : Prop :=
  match s.seq with
  | .idle => True
  | .rd1 => frameBit14 s.tx1 = true ∧ OddFrame s.tx1 ∧ s.tx2 = 0x4000#16
  | .rd2 => frameBit14 s.tx1 = true ∧ OddFrame s.tx1 ∧ s.tx2 = 0x4000#16
  | .wr1 => frameBit14 s.tx1 = false ∧ OddFrame s.tx1 ∧ frameBit14 s.tx2 = false ∧ OddFrame s.tx2
  | .wr2 => frameBit14 s.tx1 = false ∧ OddFrame s.tx1 ∧ frameBit14 s.tx2 = false ∧ OddFrame s.tx2

/-- An event of this block names the device `cs` and carries an odd-parity word (R105, R127). -/
def BusEvent.Ok (cs : BitVec Config.csIdWidth) : BusEvent → Prop
  | .exchange c tx _ => c = cs ∧ OddFrame tx
  | .abandoned c tx => c = cs ∧ OddFrame tx
  | .foreign _ => True
  | .cut _ => True

/-- The invariant of every run: BUS_OWN and xfer_req are up exactly outside IDLE (R31), the latches hold the
transaction's frames (R105), an RSP_ERR that holds a value is never 3 (R27), a written register means RSP_ERR was written
(R33), rsp_valid is up only in IDLE (R28), in IDLE the last event is no foreign exchange under BUS_OWN (R31, R160), and
every recorded event is addressed to CS_ID with odd parity (R105, R127). -/
structure State.Inv (s : State) : Prop where
  busOwn_iff : s.busOwn = (s.seq != .idle)
  xferReq_iff : s.xferReq = (s.seq != .idle)
  latches : s.LatchesOk
  err_ne_three : s.errSet = true → s.rspErr ≠ 3
  written : (s.frameSet || s.valSet || s.peSet || s.efSet) = true → s.errSet = true
  valid_idle : s.rspValid = true → s.seq = .idle
  keeps_off_idle : s.seq = .idle → s.busLog.getLast? ≠ some (.foreign true)
  log : ∀ e ∈ s.busLog, e.Ok s.csId

/-- The five result registers with whether each holds a value. -/
def State.results (s : State) : Frame × Value × Bool × Bool × BitVec 2 × Bool × Bool × Bool × Bool × Bool :=
  (s.rspFrame, s.rspVal, s.rspPe, s.rspEf, s.rspErr, s.frameSet, s.valSet, s.peSet, s.efSet, s.errSet)

/-- The operand's register, if it names one, holds a value (R34). -/
def State.readable (s : State) : Operand → Bool
  | .lit _ => true
  | .rspFrame => s.frameSet
  | .rspVal => s.valSet

/-- What the requester puts in the operand's place (R76): the literal, RSP_FRAME, or RSP_VAL[15:0] (log entry 10). -/
def State.copied (s : State) : Operand → Frame
  | .lit v => v
  | .rspFrame => s.rspFrame
  | .rspVal => BitVec.ofNat 16 (s.rspVal.toNat % 65536)

/-- The instruction is an operation of the request interface, reserved opcodes included (R70). -/
def isRequest : Instr → Bool
  | .parGen _ => true
  | .parChk _ => true
  | .cmdEnc _ _ => true
  | .datEnc _ => true
  | .frmDec _ => true
  | .fldGet _ _ => true
  | .fldSet _ _ _ => true
  | .angScl _ => true
  | .rdReg _ => true
  | .wrReg _ _ => true
  | .reservedA => true
  | .reservedB => true
  | .reservedC => true
  | .reservedD => true
  | .reservedE => true
  | .reservedF => true
  | .wireReadCmd _ _ => false
  | .wireWriteCmd _ _ => false
  | .wireNop => false
  | .wireData _ _ _ => false
  | .readAngle => false
  | .writeZpos _ _ => false
  | .writeSettings1 _ => false
  | .writeSettings2 _ => false
  | .readRegister _ => false
  | .writeRegister _ _ => false

/-- `k` steps from `s`, stopping at the first fault or refusal. -/
def runSteps (k : Nat) (s : State) : Host.Outcome State Fault Refusal :=
  match k with
  | 0 => .next s
  | k + 1 =>
    match step s with
    | .next t => runSteps k t
    | .fault f => .fault f
    | .refused r => .refused r

/-- `n` steps of the environment that raise no input: the transport takes its time (R50). -/
def waits (n : Nat) : List EnvStep := List.replicate n quietStep

/-- The operand bits OP reads (R71), as masks of A, B and C. -/
def operandMask (op : BitVec 4) : Frame × Frame × BitVec 10 :=
  match op.toNat with
  | 0 => (0xFFFF, 0, 0)
  | 1 => (0xFFFF, 0, 0)
  | 2 => (0x3FFF, 0x0001, 0)
  | 3 => (0x3FFF, 0, 0)
  | 4 => (0xFFFF, 0, 0)
  | 5 => (0xFFFF, 0, 0x3FF)
  | 6 => (0xFFFF, 0xFFFF, 0x3FF)
  | 7 => (0x3FFF, 0, 0)
  | 8 => (0x3FFF, 0, 0)
  | 9 => (0x3FFF, 0x3FFF, 0)
  | _ => (0, 0, 0)

/-- A state without the record of the bus and the last received word: what the block and the requester can see. -/
def State.forgetBus (s : State) : State := { s with busLog := [], xferRx := 0 }

/-- An outcome with its state seen through `f`. -/
def mapNext (f : State → State) : Host.Outcome State Fault Refusal → Host.Outcome State Fault Refusal
  | .next s => .next (f s)
  | .fault x => .fault x
  | .refused r => .refused r

end Sys2Proof.Machine
end

