-- ==== Sys2Proof/Certificates/Slice0/Obligations.lean ====
section
/-! DEFINITION. The statements for the provers. Each docstring names the rule of spec/ it formalises, or the section it
is derived from. -/

open Sys2Proof Sys2Proof.Machine

/-- PAR_GEN: parity bit and frame, and nothing else.
The rule (R95). -/
def Obligations.ParGenInsertsParity : Prop :=
  ∀ (a b : Frame) (c : BitVec 10) (s : State), s.seq = .idle →
    decodeRequest (requestWord 0 a b c) = .parGen a ∧
    exec (.parGen a) s = .next { s with
      rspVal := if popcount (a.extractLsb' 0 15) % 2 = 0 then 1#20 else 0#20
      valSet := true
      rspFrame := (a &&& 0x7FFF#16) ||| (if popcount (a.extractLsb' 0 15) % 2 = 0 then 0x8000#16 else 0#16)
      frameSet := true
      rspErr := 0
      errSet := true
      rspValid := true }

/-- PAR_CHK: recomputed parity and the parity fault, and nothing else.
The rule (R96). -/
def Obligations.ParChkFlagsMismatch : Prop :=
  ∀ (a b : Frame) (c : BitVec 10) (s : State), s.seq = .idle →
    decodeRequest (requestWord 1 a b c) = .parChk a ∧
    exec (.parChk a) s = .next { s with
      rspVal := if popcount (a.extractLsb' 0 15) % 2 = 0 then 1#20 else 0#20
      valSet := true
      rspPe := a.getLsbD 15 ^^ decide (popcount (a.extractLsb' 0 15) % 2 = 0)
      peSet := true
      rspErr := 0
      errSet := true
      rspValid := true }

/-- CMD_ENC: the command frame of A[13:0] and B[0], and nothing else.
The rule (R101). -/
def Obligations.CmdEncBuildsCommandFrame : Prop :=
  ∀ (a b : Frame) (c : BitVec 10) (s : State), s.seq = .idle →
    let lo : Frame := (a &&& 0x3FFF#16) ||| ((b &&& 1#16) <<< 14)
    decodeRequest (requestWord 2 a b c) = .cmdEnc (a.extractLsb' 0 14) (b.getLsbD 0) ∧
    exec (.cmdEnc (a.extractLsb' 0 14) (b.getLsbD 0)) s = .next { s with
      rspFrame := lo ||| (if popcount (lo.extractLsb' 0 15) % 2 = 0 then 0x8000#16 else 0#16)
      frameSet := true
      rspErr := 0
      errSet := true
      rspValid := true }

/-- DAT_ENC: the data frame of A[13:0] with EF = 0, and nothing else.
The rule (R102). -/
def Obligations.DatEncBuildsDataFrame : Prop :=
  ∀ (a b : Frame) (c : BitVec 10) (s : State), s.seq = .idle →
    let lo : Frame := a &&& 0x3FFF#16
    decodeRequest (requestWord 3 a b c) = .datEnc (a.extractLsb' 0 14) ∧
    exec (.datEnc (a.extractLsb' 0 14)) s = .next { s with
      rspFrame := lo ||| (if popcount (lo.extractLsb' 0 15) % 2 = 0 then 0x8000#16 else 0#16)
      frameSet := true
      rspErr := 0
      errSet := true
      rspValid := true }

/-- FRM_DEC: frame, data, error flag and parity fault, and nothing else.
The rule (R103). -/
def Obligations.FrmDecDecodesDataFrame : Prop :=
  ∀ (a b : Frame) (c : BitVec 10) (s : State), s.seq = .idle →
    decodeRequest (requestWord 4 a b c) = .frmDec a ∧
    exec (.frmDec a) s = .next { s with
      rspFrame := a
      frameSet := true
      rspVal := (a &&& 0x3FFF#16).setWidth 20
      valSet := true
      rspEf := a.getLsbD 14
      efSet := true
      rspPe := a.getLsbD 15 ^^ decide (popcount (a.extractLsb' 0 15) % 2 = 0)
      peSet := true
      rspErr := 0
      errSet := true
      rspValid := true }

/-- FLD_GET: the field as a number, or BAD_FIELD, and nothing else.
The rule (R83). -/
def Obligations.FldGetExtractsField : Prop :=
  ∀ (a b : Frame) (d : FieldDesc) (s : State), s.seq = .idle →
    decodeRequest (requestWord 5 a b (cOfDesc d)) = .fldGet a d ∧
    exec (.fldGet a d) s = .next
      (if d.wid.toNat = 0 ∨ d.off.toNat + d.wid.toNat > (if d.bw then 8 else 16) then
        { s with rspErr := 2, errSet := true, rspValid := true }
      else
        { s with
          rspVal := BitVec.ofNat 20
            ((if d.bw then a.toNat % 256 else a.toNat) / 2 ^ d.off.toNat % 2 ^ d.wid.toNat)
          valSet := true
          rspErr := 0
          errSet := true
          rspValid := true })

/-- FLD_SET: the raw value with its field replaced, or BAD_FIELD, and nothing else.
The rule (R84). -/
def Obligations.FldSetReplacesField : Prop :=
  ∀ (a b : Frame) (d : FieldDesc) (s : State), s.seq = .idle →
    let raw : Frame := if d.bw then a &&& 0xFF#16 else a
    let m : Frame := BitVec.ofNat 16 (2 ^ d.wid.toNat - 1)
    decodeRequest (requestWord 6 a b (cOfDesc d)) = .fldSet a b d ∧
    exec (.fldSet a b d) s = .next
      (if d.wid.toNat = 0 ∨ d.off.toNat + d.wid.toNat > (if d.bw then 8 else 16) then
        { s with rspErr := 2, errSet := true, rspValid := true }
      else
        { s with
          rspFrame := (raw &&& ~~~(m <<< d.off.toNat)) ||| ((b &&& m) <<< d.off.toNat)
          frameSet := true
          rspErr := 0
          errSet := true
          rspValid := true })

/-- ANG_SCL: raw * 45 in RSP_VAL, and nothing else.
The rule (R131). -/
def Obligations.AngSclScalesAngle : Prop :=
  ∀ (a b : Frame) (c : BitVec 10) (s : State), s.seq = .idle →
    decodeRequest (requestWord 7 a b c) = .angScl (a.extractLsb' 0 14) ∧
    exec (.angScl (a.extractLsb' 0 14)) s = .next { s with
      rspVal := BitVec.ofNat 20 (a.toNat % 16384 * 45)
      valSet := true
      rspErr := 0
      errSet := true
      rspValid := true }

/-- OP 0xA to 0xF: RSP_ERR = 1 and nothing else, in one step with no exchange.
The rule (R72). -/
def Obligations.ReservedOpcodesWriteOnlyStatus : Prop :=
  ∀ (a b : Frame) (c : BitVec 10) (s : State), s.seq = .idle →
    (decodeRequest (requestWord 10 a b c) = .reservedA ∧
     decodeRequest (requestWord 11 a b c) = .reservedB ∧
     decodeRequest (requestWord 12 a b c) = .reservedC ∧
     decodeRequest (requestWord 13 a b c) = .reservedD ∧
     decodeRequest (requestWord 14 a b c) = .reservedE ∧
     decodeRequest (requestWord 15 a b c) = .reservedF) ∧
    ∀ i ∈ [Instr.reservedA, .reservedB, .reservedC, .reservedD, .reservedE, .reservedF],
      exec i s = .next { s with rspErr := 1, errSet := true, rspValid := true }

/-- RD_REG accepted: both frames latched, bus taken, RD1 started, results untouched.
Derived from (spec/43_sequencer.md section 1, row IDLE accept RD_REG, spec/43_sequencer.md section 2). -/
def Obligations.RdRegIsAccepted : Prop :=
  ∀ (a b : Frame) (c : BitVec 10) (s : State), s.seq = .idle →
    let lo : Frame := (a &&& 0x3FFF#16) ||| 0x4000#16
    decodeRequest (requestWord 8 a b c) = .rdReg (a.extractLsb' 0 14) ∧
    exec (.rdReg (a.extractLsb' 0 14)) s = .next { s with
      seq := .rd1
      tx1 := lo ||| (if popcount (lo.extractLsb' 0 15) % 2 = 0 then 0x8000#16 else 0#16)
      tx2 := 0x4000
      busOwn := true
      xferReq := true }

/-- WR_REG accepted: both frames latched, bus taken, WR1 started, results untouched.
Derived from (spec/43_sequencer.md section 1, row IDLE accept WR_REG, spec/43_sequencer.md section 3). -/
def Obligations.WrRegIsAccepted : Prop :=
  ∀ (a b : Frame) (c : BitVec 10) (s : State), s.seq = .idle →
    let lo1 : Frame := a &&& 0x3FFF#16
    let lo2 : Frame := b &&& 0x3FFF#16
    decodeRequest (requestWord 9 a b c) = .wrReg (a.extractLsb' 0 14) (b.extractLsb' 0 14) ∧
    exec (.wrReg (a.extractLsb' 0 14) (b.extractLsb' 0 14)) s = .next { s with
      seq := .wr1
      tx1 := lo1 ||| (if popcount (lo1.extractLsb' 0 15) % 2 = 0 then 0x8000#16 else 0#16)
      tx2 := lo2 ||| (if popcount (lo2.extractLsb' 0 15) % 2 = 0 then 0x8000#16 else 0#16)
      busOwn := true
      xferReq := true }

/-- The exchange of each wire frame, acknowledged: what it advances, records and writes.
Derived from (spec/43_sequencer.md section 1, rows RD1, RD2, WR1 and WR2 of the transition table, spec/42_frame_codec.md section 1). -/
def Obligations.AcknowledgedFramesAdvanceTheSequencer : Prop :=
  ∀ (x : Field14) (b p : Bool) (s : State), s.xferAck = true →
    (s.seq = .rd1 → exec (.wireReadCmd x p) s = .next { s with
      seq := .rd2
      busLog := s.busLog ++ [.exchange s.csId (packFrame p true x) s.xferRx] }) ∧
    (s.seq = .rd2 → exec .wireNop s = .next { s with
      seq := .idle
      busOwn := false
      xferReq := false
      rspFrame := s.xferRx
      frameSet := true
      rspVal := (s.xferRx &&& 0x3FFF#16).setWidth 20
      valSet := true
      rspEf := s.xferRx.getLsbD 14
      efSet := true
      rspPe := s.xferRx.getLsbD 15 ^^ decide (popcount (s.xferRx.extractLsb' 0 15) % 2 = 0)
      peSet := true
      rspErr := 0
      errSet := true
      rspValid := true
      busLog := s.busLog ++ [.exchange s.csId 0x4000 s.xferRx] }) ∧
    (s.seq = .wr1 → exec (.wireWriteCmd x p) s = .next { s with
      seq := .wr2
      busLog := s.busLog ++ [.exchange s.csId (packFrame p false x) s.xferRx] }) ∧
    (s.seq = .wr2 → exec (.wireData x b p) s = .next { s with
      seq := .idle
      busOwn := false
      xferReq := false
      rspErr := 0
      errSet := true
      rspValid := true
      busLog := s.busLog ++ [.exchange s.csId (packFrame p b x) s.xferRx] })

/-- The exchange of each wire frame, not acknowledged: nothing changes (a wire row as its exchange: log entry 9).
Derived from (spec/43_sequencer.md section 1, last row of the transition table, spec/20_memory.md section 2). -/
def Obligations.UnacknowledgedFramesAreHeld : Prop :=
  ∀ (x : Field14) (b p : Bool) (s : State), s.xferAck = false →
    (s.seq = .rd1 → exec (.wireReadCmd x p) s = .next s) ∧
    (s.seq = .rd2 → exec .wireNop s = .next s) ∧
    (s.seq = .wr1 → exec (.wireWriteCmd x p) s = .next s) ∧
    (s.seq = .wr2 → exec (.wireData x b p) s = .next s)

/-- A wire frame's row outside its SEQ state is refused by name (model's choice, log entry 9).
Derived from (spec/30_encoding.md section 1, spec/43_sequencer.md section 1). -/
def Obligations.FramesOutOfPositionAreRefused : Prop :=
  ∀ (x : Field14) (b p : Bool) (s : State),
    (s.seq ≠ .rd1 → exec (.wireReadCmd x p) s = .refused .frameOutOfPosition) ∧
    (s.seq ≠ .rd2 → exec .wireNop s = .refused .frameOutOfPosition) ∧
    (s.seq ≠ .wr1 → exec (.wireWriteCmd x p) s = .refused .frameOutOfPosition) ∧
    (s.seq ≠ .wr2 → exec (.wireData x b p) s = .refused .frameOutOfPosition)

/-- Each pseudo-operation puts its expansion before the requester's lines and changes nothing else.
Derived from (spec/44_angle_and_facade.md section 2, spec/30_encoding.md section 4). -/
def Obligations.PseudoOperationsExpand : Prop :=
  ∀ (x y : Frame) (s : State),
    exec .readAngle s = .next { s with
      program := .asm 8 (.lit 0x3FFE) (.lit 0) 0 :: .asm 7 .rspVal (.lit 0) 0 :: s.program } ∧
    exec (.writeZpos x y) s = .next { s with
      program := .asm 9 (.lit 0x0016) (.lit (x &&& 0xFF#16)) 0 ::
        .asm 9 (.lit 0x0017) (.lit (y &&& 0xFF#16)) 0 :: s.program } ∧
    exec (.writeSettings1 x) s = .next { s with
      program := .asm 9 (.lit 0x0018) (.lit (x &&& 0xFF#16)) 0 :: s.program } ∧
    exec (.writeSettings2 x) s = .next { s with
      program := .asm 9 (.lit 0x0019) (.lit (x &&& 0xFF#16)) 0 :: s.program } ∧
    exec (.readRegister x) s = .next { s with
      program := .asm 8 (.lit x) (.lit 0) 0 :: s.program } ∧
    exec (.writeRegister x y) s = .next { s with
      program := .asm 9 (.lit x) (.lit y) 0 :: s.program }

/-- Outside IDLE no operation has any effect, and the requester's lines are kept (log entries 1, 5, 7, 14, 26).
Derived from (spec/43_sequencer.md section 1, spec/10_state.md section 2). -/
def Obligations.RequestWhileBusyIsHeld : Prop :=
  ∀ (s : State),
    (s.seq ≠ .idle →
      (∀ i, isRequest i = true → exec i s = .next s) ∧
      (∀ t, step s = .next t → t.program = s.program)) ∧
    (s.seq = .idle → s.sampleInputs.resetIn = false →
      ∀ line rest, s.program = line :: rest →
        step s = exec (line.issue s.sampleInputs) { s.sampleInputs with
          program := rest
          noValueRead := s.noValueRead || line.operands.any fun o => !s.readable o })

/-- A step runs exactly the instruction its word decodes to.
Derived from (spec/10_state.md section 2, spec/30_encoding.md section 5, spec/43_sequencer.md section 1). -/
def Obligations.StepRunsTheDecodedInstruction : Prop :=
  ∀ (s : State), s.sampleInputs.resetIn = false →
    (∀ w rest, s.seq = .idle → s.program = .word w :: rest →
      decode (.request w) = .ok (decodeRequest w) ∧
      step s = exec (decodeRequest w) { s.sampleInputs with program := rest }) ∧
    (∀ i, s.seq = .rd1 → decode (.readFirst s.tx1) = .ok i → step s = exec i s.sampleInputs) ∧
    (∀ i, s.seq = .rd2 → decode (.readSecond s.tx2) = .ok i → step s = exec i s.sampleInputs) ∧
    (∀ i, s.seq = .wr1 → decode (.writeFirst s.tx1) = .ok i → step s = exec i s.sampleInputs) ∧
    (∀ i, s.seq = .wr2 → decode (.writeSecond s.tx2) = .ok i → step s = exec i s.sampleInputs)

/-- Words the spec prints decode to the operations it prints beside them.
Derived from (spec/30_encoding.md section 4, spec/95_test_vectors.md section 3). -/
def Obligations.SpecWordsDecode : Prop :=
  decodeRequest 0x3FFE8#46 = .rdReg 0x3FFE ∧
  decodeRequest 0x13FFE2#46 = .cmdEnc 0x3FFE true ∧
  decodeRequest 0xE00000FFFE5#46 = .fldGet 0xFFFE ⟨0, 14, false⟩ ∧
  decodeRequest 0x2600025FF126#46 = .fldSet 0xFF12 0x0025 ⟨0, 6, true⟩ ∧
  decodeRequest 0x500189#46 = .wrReg 0x0018 0x0005 ∧
  decodeRequest 0x20007#46 = .angScl 0x2000 ∧
  decodeRequest 0x7FFE0#46 = .parGen 0x7FFE ∧
  decodeRequest 0xFFFE1#46 = .parChk 0xFFFE ∧
  decodeRequest 0x3FFFFFFFFFFA#46 = .reservedA ∧
  decode (.readFirst 0xFFFE) = .ok (.wireReadCmd 0x3FFE true) ∧
  decode (.writeFirst 0x8018) = .ok (.wireWriteCmd 0x0018 true) ∧
  decode (.readSecond 0x4000) = .ok .wireNop ∧
  decode (.writeSecond 0x8005) = .ok (.wireData 0x0005 false true)

/-- The read and write command frames of the eleven named registers.
Derived from (spec/30_encoding.md section 3, spec/20_memory.md section 1). -/
def Obligations.NamedRegisterFrames : Prop :=
  [RegName.nop, .errfl, .prog, .zposm, .zposl, .settings1, .settings2, .diaagc, .mag, .angle, .anglecom].map
      (fun r => (commandFrame r.address true, commandFrame r.address false)) =
    [(0x4000, 0x8000), (0xC001, 0x0001), (0x4003, 0x8003), (0xC016, 0x0016), (0x4017, 0x8017),
     (0x4018, 0x8018), (0xC019, 0x0019), (0x7FFC, 0xBFFC), (0xFFFD, 0x3FFD), (0xFFFE, 0x3FFE),
     (0x7FFF, 0xBFFF)]

/-- Decode of encode is the instruction, for every instruction that has an encoding.
Derived from (spec/30_encoding.md sections 1 and 2, spec/30_encoding.md section 5). -/
def Obligations.DecodeInvertsEncode : Prop :=
  ∀ (i : Instr), i.wellFormed = true →
    (∀ c, encode i = some c → decode c = .ok i) ∧
    (encode i = none ↔
      i = .readAngle ∨ (∃ m l, i = .writeZpos m l) ∨ (∃ v, i = .writeSettings1 v) ∨
      (∃ v, i = .writeSettings2 v) ∨ (∃ a, i = .readRegister a) ∨ (∃ a v, i = .writeRegister a v))

/-- Encode of decode is the word: exact for frames, up to the ignored operand bits for requests.
Derived from (spec/30_encoding.md sections 1 and 2, spec/30_encoding.md section 5). -/
def Obligations.EncodeInvertsDecode : Prop :=
  (∀ (w : Frame) (i : Instr), ∀ c ∈ [Code.readFirst w, .readSecond w, .writeFirst w, .writeSecond w],
    decode c = .ok i → encode i = some c) ∧
  (∀ (w : Request),
    encode (decodeRequest w) = some (.request
      (requestWord (requestOp w)
        (requestA w &&& (operandMask (requestOp w)).1)
        (requestB w &&& (operandMask (requestOp w)).2.1)
        (requestC w &&& (operandMask (requestOp w)).2.2))))

/-- Each operation reads only the operand bits of its row.
Derived from (spec/30_encoding.md section 2). -/
def Obligations.IgnoredOperandBitsNeverMatter : Prop :=
  ∀ (op : BitVec 4) (a b : Frame) (c : BitVec 10),
    decodeRequest (requestWord op a b c) =
      decodeRequest (requestWord op (a &&& (operandMask op).1) (b &&& (operandMask op).2.1)
        (c &&& (operandMask op).2.2))

/-- REQ is its four fields at bits 3:0, 19:4, 35:20 and 45:36.
Derived from (spec/30_encoding.md section 2). -/
def Obligations.RequestWordLayout : Prop :=
  (∀ (op : BitVec 4) (a b : Frame) (c : BitVec 10),
    (requestWord op a b c).toNat = c.toNat * 2 ^ 36 + b.toNat * 2 ^ 20 + a.toNat * 2 ^ 4 + op.toNat) ∧
  (∀ (w : Request),
    (requestOp w).toNat = w.toNat % 2 ^ 4 ∧
    (requestA w).toNat = w.toNat / 2 ^ 4 % 2 ^ 16 ∧
    (requestB w).toNat = w.toNat / 2 ^ 20 % 2 ^ 16 ∧
    (requestC w).toNat = w.toNat / 2 ^ 36)

/-- PAR_GEN of every frame gives a frame with an odd number of 1 bits (inferred by the spec from the parity rule).
Derived from (spec/41_parity.md section 3, spec/41_parity.md section 2). -/
def Obligations.GeneratedFramesHaveOddParity : Prop :=
  ∀ (a : Frame) (s : State), s.seq = .idle →
    ∃ t, exec (.parGen a) s = .next t ∧ popcount t.rspFrame % 2 = 1 ∧
      t.rspFrame.extractLsb' 0 15 = a.extractLsb' 0 15 ∧
      exec (.parGen (a ^^^ 0x8000#16)) s = .next t

/-- PAR_CHK reports a fault exactly on frames with an even number of 1 bits (inferred by the spec).
Derived from (spec/41_parity.md section 3, spec/41_parity.md section 2). -/
def Obligations.ParityFaultIffEvenPopcount : Prop :=
  ∀ (a : Frame) (s : State), s.seq = .idle →
    ∃ t, exec (.parChk a) s = .next t ∧ (t.rspPe = true ↔ popcount a % 2 = 0)

/-- Changing an odd number of bits of a passing frame makes it fail, an even number never does (inferred by the spec).
Derived from (spec/41_parity.md section 3). -/
def Obligations.OddBitErrorsAreDetected : Prop :=
  ∀ (a e : Frame) (s t : State), s.seq = .idle → exec (.parChk a) s = .next t → t.rspPe = false →
    ∃ u, exec (.parChk (a ^^^ e)) s = .next u ∧ (u.rspPe = true ↔ popcount e % 2 = 1)

/-- P is the complement of the exclusive or of bits 14:0 (inferred by the spec).
Derived from (spec/41_parity.md section 1). -/
def Obligations.ParityIsFifteenInputXnor : Prop :=
  ∀ (f : Frame),
    parityBit f = !((List.range 15).foldl (fun acc i => acc ^^ f.getLsbD i) false) ∧
    parityBit (f ^^^ 0x8000#16) = parityBit f

/-- CMD_ENC's frame has ADDR at 13:0, RW at 14 and an odd number of 1 bits.
Derived from (spec/30_encoding.md section 1, spec/42_frame_codec.md section 2). -/
def Obligations.CommandFrameFields : Prop :=
  ∀ (addr : Field14) (rw : Bool) (s : State), s.seq = .idle →
    ∃ t u, exec (.cmdEnc addr rw) s = .next t ∧
      t.rspFrame.extractLsb' 0 14 = addr ∧ t.rspFrame.getLsbD 14 = rw ∧
      popcount t.rspFrame % 2 = 1 ∧
      exec (.frmDec t.rspFrame) t = .next u ∧
      u.rspVal.toNat = addr.toNat ∧ u.rspEf = rw ∧ u.rspPe = false

/-- FRM_DEC of DAT_ENC's frame gives the data back, no error flag, no parity fault (inferred by the spec).
Derived from (spec/42_frame_codec.md section 2). -/
def Obligations.DecodeOfEncodedData : Prop :=
  ∀ (d : Field14) (s : State), s.seq = .idle →
    ∃ t u, exec (.datEnc d) s = .next t ∧ exec (.frmDec t.rspFrame) t = .next u ∧
      u.rspVal.toNat = d.toNat ∧ u.rspEf = false ∧ u.rspPe = false ∧ u.rspErr = 0

/-- Round trip: FLD_GET of FLD_SET's result is the value mod 2^WID (inferred by the spec).
Derived from (spec/40_bitfield_codec.md section 2). -/
def Obligations.FieldGetOfSetIsValueModWidth : Prop :=
  ∀ (d : FieldDesc) (a v : Frame) (s : State), s.seq = .idle →
    1 ≤ d.wid.toNat → d.off.toNat + d.wid.toNat ≤ (if d.bw then 8 else 16) →
    ∃ t u, exec (.fldSet a v d) s = .next t ∧ exec (.fldGet t.rspFrame d) t = .next u ∧
      u.rspVal.toNat = v.toNat % 2 ^ d.wid.toNat

/-- FLD_SET keeps every bit of the backing value outside the field (inferred by the spec).
Derived from (spec/40_bitfield_codec.md section 2). -/
def Obligations.FieldSetPreservesOtherBits : Prop :=
  ∀ (d : FieldDesc) (a v : Frame) (s : State), s.seq = .idle →
    1 ≤ d.wid.toNat → d.off.toNat + d.wid.toNat ≤ (if d.bw then 8 else 16) →
    ∃ t, exec (.fldSet a v d) s = .next t ∧
      ∀ n, (n < (if d.bw then 8 else 16) → (n < d.off.toNat ∨ d.off.toNat + d.wid.toNat ≤ n) →
          t.rspFrame.getLsbD n = a.getLsbD n) ∧
        ((if d.bw then 8 else 16) ≤ n → t.rspFrame.getLsbD n = false)

/-- FLD_SET of a value with its own field gives the backing value back (inferred by the spec).
Derived from (spec/40_bitfield_codec.md section 2). -/
def Obligations.FieldSetOfGetIsIdentity : Prop :=
  ∀ (d : FieldDesc) (a : Frame) (s : State), s.seq = .idle →
    1 ≤ d.wid.toNat → d.off.toNat + d.wid.toNat ≤ (if d.bw then 8 else 16) →
    ∃ t u, exec (.fldGet a d) s = .next t ∧ exec (.fldSet a (t.rspVal.setWidth 16) d) t = .next u ∧
      u.rspFrame = if d.bw then a &&& 0xFF#16 else a

/-- With an 8-bit backing value A[15:8] is never read and FLD_SET's bits 15:8 are 0.
The rule (R86). -/
def Obligations.ByteBackingReadsLowByteOnly : Prop :=
  ∀ (d : FieldDesc) (a v : Frame) (s : State), d.bw = true → s.seq = .idle →
    exec (.fldGet a d) s = exec (.fldGet (a &&& 0xFF#16) d) s ∧
    exec (.fldSet a v d) s = exec (.fldSet (a &&& 0xFF#16) v d) s ∧
    (1 ≤ d.wid.toNat → d.off.toNat + d.wid.toNat ≤ 8 →
      ∃ t, exec (.fldSet a v d) s = .next t ∧ t.rspFrame.toNat < 256)

/-- ANG_SCL is exact, below 360 degrees and strictly increasing (inferred by the spec).
Derived from (spec/44_angle_and_facade.md section 1). -/
def Obligations.AngleScalingIsExact : Prop :=
  ∀ (raw : Field14) (s : State), s.seq = .idle →
    ∃ t, exec (.angScl raw) s = .next t ∧
      t.rspVal.toNat * 16384 = raw.toNat * 360 * 2048 ∧
      t.rspVal.toNat < 360 * 2048 ∧
      t.rspVal.toNat / 2048 = raw.toNat * 360 / 16384 ∧
      ∀ (raw' : Field14), raw.toNat < raw'.toNat →
        ∃ u, exec (.angScl raw') s = .next u ∧ t.rspVal.toNat < u.rspVal.toNat

/-- RD_REG: exactly two exchanges whatever the waits, then the phase-2 word decoded (TX1, TX2 kept in IDLE: log entry 2).
Derived from (spec/43_sequencer.md sections 1 and 2, spec/43_sequencer.md section 4). -/
def Obligations.ReadTakesTwoExchanges : Prop :=
  ∀ (s : State) (a b : Frame) (c : BitVec 10) (rest : List Line) (n m : Nat) (r1 r2 : Frame)
    (later : List EnvStep),
    s.seq = .idle → s.program = .word (requestWord 8 a b c) :: rest →
    s.stimulus = quietStep :: (waits n ++ ackStep r1 :: (waits m ++ ackStep r2 :: later)) →
    let lo : Frame := (a &&& 0x3FFF#16) ||| 0x4000#16
    let command : Frame := lo ||| (if popcount (lo.extractLsb' 0 15) % 2 = 0 then 0x8000#16 else 0#16)
    runSteps (n + m + 3) s = .next { s with
      seq := .idle
      busOwn := false
      tx1 := command
      tx2 := 0x4000
      rspFrame := r2
      frameSet := true
      rspVal := (r2 &&& 0x3FFF#16).setWidth 20
      valSet := true
      rspEf := r2.getLsbD 14
      efSet := true
      rspPe := r2.getLsbD 15 ^^ decide (popcount (r2.extractLsb' 0 15) % 2 = 0)
      peSet := true
      rspErr := 0
      errSet := true
      rspValid := true
      xferReq := false
      xferAck := true
      xferRx := r2
      resetIn := false
      program := rest
      stimulus := later
      busLog := s.busLog ++ [.exchange s.csId command r1, .exchange s.csId 0x4000 r2] }

/-- WR_REG: exactly two exchanges whatever the waits, command then data, RSP_ERR only (TX1, TX2 kept in IDLE: log entry 2).
Derived from (spec/43_sequencer.md sections 1 and 3, spec/43_sequencer.md section 4). -/
def Obligations.WriteTakesTwoExchanges : Prop :=
  ∀ (s : State) (a b : Frame) (c : BitVec 10) (rest : List Line) (n m : Nat) (r1 r2 : Frame)
    (later : List EnvStep),
    s.seq = .idle → s.program = .word (requestWord 9 a b c) :: rest →
    s.stimulus = quietStep :: (waits n ++ ackStep r1 :: (waits m ++ ackStep r2 :: later)) →
    let lo1 : Frame := a &&& 0x3FFF#16
    let lo2 : Frame := b &&& 0x3FFF#16
    let command : Frame := lo1 ||| (if popcount (lo1.extractLsb' 0 15) % 2 = 0 then 0x8000#16 else 0#16)
    let data : Frame := lo2 ||| (if popcount (lo2.extractLsb' 0 15) % 2 = 0 then 0x8000#16 else 0#16)
    runSteps (n + m + 3) s = .next { s with
      seq := .idle
      busOwn := false
      tx1 := command
      tx2 := data
      rspErr := 0
      errSet := true
      rspValid := true
      xferReq := false
      xferAck := true
      xferRx := r2
      resetIn := false
      program := rest
      stimulus := later
      busLog := s.busLog ++ [.exchange s.csId command r1, .exchange s.csId data r2] }

/-- The word received outside RD2 affects no later behaviour.
Derived from (spec/43_sequencer.md sections 2 and 3, spec/20_memory.md section 3). -/
def Obligations.OnlyThePhaseTwoWordIsUsed : Prop :=
  ∀ (s : State) (r r' : Frame) (later : List EnvStep) (k : Nat), s.seq ≠ .rd2 →
    mapNext State.forgetBus (runSteps (k + 1) { s with stimulus := ackStep r :: later }) =
      mapNext State.forgetBus (runSteps (k + 1) { s with stimulus := ackStep r' :: later })

/-- RD_REG's results are exactly what FRM_DEC of the phase-2 word gives.
The rule (R118). -/
def Obligations.ReadResultIsFrmDecOfPhaseTwoWord : Prop :=
  ∀ (s : State) (rx : Frame) (later : List EnvStep), s.Inv → s.seq = .rd2 →
    s.stimulus = ackStep rx :: later →
    s.xferTx = some 0x4000 ∧
    ∃ t u, step s = .next t ∧ exec (.frmDec rx) { s with seq := .idle } = .next u ∧
      t.results = u.results ∧ t.rspFrame = rx

/-- Under the pipeline contract RD_REG returns the sensor's data frame for the addressed register (log entries 15, 23).
Derived from (spec/20_memory.md section 3, spec/43_sequencer.md section 2). -/
def Obligations.ReadReturnsThePipelinedFrame : Prop :=
  ∀ (S : Sensor) (frameOf : Field14 → List Frame → Nat → Frame) (s : State) (a b : Frame)
    (c : BitVec 10) (rest : List Line) (n m : Nat) (r1 r2 : Frame) (later : List EnvStep),
    S.Pipelined frameOf → s.Inv → s.seq = .idle → s.program = .word (requestWord 8 a b c) :: rest →
    s.stimulus = quietStep :: (waits n ++ ackStep r1 :: (waits m ++ ackStep r2 :: later)) →
    ∃ u, runSteps (n + 2) s = .next u ∧
      (S.mayAnswer u.busLog r2 →
        ∃ t sent choice, runSteps (n + m + 3) s = .next t ∧ PossibleHistory s.busLog sent ∧
          t.rspFrame = frameOf (a.extractLsb' 0 14) sent choice ∧
          t.rspVal.toNat = t.rspFrame.toNat % 16384 ∧ t.frameSet = true ∧ t.valSet = true)

/-- Under the echo transport every read decodes its own command, not its neighbour's (inferred by the spec).
Derived from (spec/43_sequencer.md section 4, spec/95_test_vectors.md section 1). -/
def Obligations.EchoReadReturnsItsOwnCommand : Prop :=
  ∀ (s : State) (a b : Frame) (c : BitVec 10) (rest : List Line) (n m : Nat) (r1 r2 : Frame)
    (later : List EnvStep),
    s.Inv → s.seq = .idle → s.program = .word (requestWord 8 a b c) :: rest →
    s.stimulus = quietStep :: (waits n ++ ackStep r1 :: (waits m ++ ackStep r2 :: later)) →
    ∃ u, runSteps (n + 2) s = .next u ∧
      (echoSensor.mayAnswer u.busLog r2 →
        ∃ t, runSteps (n + m + 3) s = .next t ∧ t.rspFrame = commandFrame (a.extractLsb' 0 14) true ∧
          t.rspVal.toNat = a.toNat % 16384 ∧ t.rspEf = true ∧ t.rspPe = false)

/-- READ_ANGLE: two exchanges 0xFFFE and 0x4000, then degrees in RSP_VAL beside the read's flags (expansion step: log entry 7).
Derived from (spec/44_angle_and_facade.md section 2). -/
def Obligations.ReadAngleLeavesDegrees : Prop :=
  ∀ (s : State) (rest : List Line) (n m : Nat) (r1 r2 : Frame) (later : List EnvStep),
    s.seq = .idle → s.program = .readAngle :: rest →
    s.stimulus =
      quietStep :: quietStep :: (waits n ++ ackStep r1 :: (waits m ++ ackStep r2 :: quietStep :: later)) →
    ∃ t, runSteps (n + m + 5) s = .next t ∧ t.seq = .idle ∧ t.busOwn = false ∧ t.rspValid = true ∧
      t.results = (r2, BitVec.ofNat 20 (r2.toNat % 16384 * 45),
        r2.getLsbD 15 ^^ decide (popcount (r2.extractLsb' 0 15) % 2 = 0), r2.getLsbD 14, 0,
        true, true, true, true, true) ∧
      t.program = rest ∧
      t.busLog = s.busLog ++ [.exchange s.csId 0xFFFE r1, .exchange s.csId 0x4000 r2]

/-- WRITE_ZPOS: ZPOSM then ZPOSL, bytes zero-extended, the bus released in between, RSP_ERR only (log entries 1, 7).
Derived from (spec/44_angle_and_facade.md section 2). -/
def Obligations.WriteZposIsTwoWrites : Prop :=
  ∀ (s : State) (rest : List Line) (m l : Operand) (n1 n2 n3 n4 : Nat) (r1 r2 r3 r4 : Frame)
    (later : List EnvStep),
    s.seq = .idle → s.program = .writeZpos m l :: rest →
    s.stimulus = quietStep :: quietStep :: (waits n1 ++ ackStep r1 :: (waits n2 ++ ackStep r2 ::
      quietStep :: (waits n3 ++ ackStep r3 :: (waits n4 ++ ackStep r4 :: later)))) →
    let data : Frame → Frame := fun v =>
      (v &&& 0xFF#16) ||| (if popcount ((v &&& 0xFF#16).extractLsb' 0 15) % 2 = 0 then 0x8000#16 else 0#16)
    (∃ u, runSteps (n1 + n2 + 4) s = .next u ∧ u.seq = .idle ∧ u.busOwn = false) ∧
    ∃ t, runSteps (n1 + n2 + n3 + n4 + 7) s = .next t ∧ t.seq = .idle ∧ t.busOwn = false ∧
      t.rspValid = true ∧ t.program = rest ∧
      t.noValueRead = (s.noValueRead || !s.readable m || !s.readable l) ∧
      t.results = (s.rspFrame, s.rspVal, s.rspPe, s.rspEf, 0,
        s.frameSet, s.valSet, s.peSet, s.efSet, true) ∧
      t.busLog = s.busLog ++ [.exchange s.csId 0x0016 r1, .exchange s.csId (data (s.copied m)) r2,
        .exchange s.csId 0x8017 r3, .exchange s.csId (data (s.copied l)) r4]

/-- WRITE_SETTINGS1, WRITE_SETTINGS2, READ_REGISTER, WRITE_REGISTER: words sent and results left (log entries 1, 7).
Derived from (spec/44_angle_and_facade.md section 2). -/
def Obligations.SettingsAndRegisterPseudoOpsRun : Prop :=
  ∀ (s : State) (rest : List Line) (x v : Operand) (n m : Nat) (r1 r2 : Frame) (later : List EnvStep),
    s.seq = .idle →
    s.stimulus = quietStep :: quietStep :: (waits n ++ ackStep r1 :: (waits m ++ ackStep r2 :: later)) →
    ∀ p ∈ [(Line.writeSettings1 v, (0x8018 : Frame), dataFrame ((s.copied v &&& 0xFF#16).extractLsb' 0 14)),
        (.writeSettings2 v, 0x0019, dataFrame ((s.copied v &&& 0xFF#16).extractLsb' 0 14)),
        (.readRegister x, commandFrame ((s.copied x).extractLsb' 0 14) true, 0x4000),
        (.writeRegister x v, commandFrame ((s.copied x).extractLsb' 0 14) false,
          dataFrame ((s.copied v).extractLsb' 0 14))],
      s.program = p.1 :: rest →
      ∃ t, runSteps (n + m + 4) s = .next t ∧ t.seq = .idle ∧ t.busOwn = false ∧ t.rspValid = true ∧
        t.program = rest ∧
        t.noValueRead = (s.noValueRead || p.1.operands.any fun o => !s.readable o) ∧
        t.busLog = s.busLog ++ [.exchange s.csId p.2.1 r1, .exchange s.csId p.2.2 r2] ∧
        t.results =
          if p.1 = .readRegister x then
            (r2, (r2 &&& 0x3FFF#16).setWidth 20,
              r2.getLsbD 15 ^^ decide (popcount (r2.extractLsb' 0 15) % 2 = 0), r2.getLsbD 14, 0,
              true, true, true, true, true)
          else
            (s.rspFrame, s.rspVal, s.rspPe, s.rspEf, 0, s.frameSet, s.valSet, s.peSet, s.efSet, true)

/-- The state after reset has the invariant.
Derived from (spec/10_state.md section 5). -/
def Obligations.ResetStateHasInvariant : Prop :=
  State.reset.Inv

/-- Every step keeps the block's invariant.
Derived from (spec/10_state.md sections 2, 3 and 4, spec/42_frame_codec.md section 2, spec/43_sequencer.md section 4). -/
def Obligations.EveryStepKeepsInvariant : Prop :=
  ∀ (s t : State), s.Inv → step s = .next t → t.Inv

/-- From an invariant state every step answers a next state: no fault and no refusal (an unwritten register's read goes on: log entry 1).
Derived from (spec/60_exceptions.md section 1, spec/10_state.md section 4). -/
def Obligations.InvariantStatesAlwaysStep : Prop :=
  ∀ (s : State), s.Inv → ∃ t, step s = .next t

/-- Using a result register that nothing has written since reset is flagged as an error, for good (how: log entries 1, 5, 7).
Derived from (spec/10_state.md section 4, spec/30_encoding.md section 4). -/
def Obligations.UnwrittenRegisterReadsAreFlagged : Prop :=
  (∀ (s : State),
    s.readRspFrame = ⟨s.rspFrame, !s.frameSet⟩ ∧ s.readRspVal = ⟨s.rspVal, !s.valSet⟩ ∧
    s.readRspPe = ⟨s.rspPe, !s.peSet⟩ ∧ s.readRspEf = ⟨s.rspEf, !s.efSet⟩ ∧
    s.readRspErr = ⟨s.rspErr, !s.errSet⟩) ∧
  (∀ (s t : State), step s = .next t →
    (t.noValueRead = true ↔ s.noValueRead = true ∨
      (s.seq = .idle ∧ s.sampleInputs.resetIn = false ∧
        ∃ line rest, s.program = line :: rest ∧ ∃ o ∈ line.operands, s.readable o = false))) ∧
  (∀ s ∈ [State.reset, State.reset.applyReset],
    (s.frameSet || s.valSet || s.peSet || s.efSet || s.errSet) = false ∧ s.noValueRead = false)

/-- Result registers change only in a completing step; in between they hold the previous operation's values.
The rule (R29). -/
def Obligations.ResultsChangeOnlyAtCompletion : Prop :=
  ∀ (s t : State), step s = .next t → s.sampleInputs.resetIn = false →
    (t.rspValid = false → t.results = s.results) ∧
    (s.seq = .rd1 → t.results = s.results)

/-- SEQ moves only along the transition table.
Derived from (spec/43_sequencer.md section 1). -/
def Obligations.SequencerFollowsItsTable : Prop :=
  ∀ (s t : State), step s = .next t → s.sampleInputs.resetIn = false →
    (s.seq = .idle → t.seq = .idle ∨ t.seq = .rd1 ∨ t.seq = .wr1) ∧
    (s.seq = .rd1 → t.seq = if s.sampleInputs.xferAck then .rd2 else .rd1) ∧
    (s.seq = .rd2 → t.seq = if s.sampleInputs.xferAck then .idle else .rd2) ∧
    (s.seq = .wr1 → t.seq = if s.sampleInputs.xferAck then .wr2 else .wr1) ∧
    (s.seq = .wr2 → t.seq = if s.sampleInputs.xferAck then .idle else .wr2)

/-- A transport that never acknowledges leaves the block in its SEQ state with the bus owned, for any number of steps.
The rule (R50). -/
def Obligations.StuckWithoutAcknowledgement : Prop :=
  ∀ (s : State) (k : Nat), s.Inv → s.seq ≠ .idle →
    (∀ e ∈ s.stimulus, e.reset = false ∧ e.ack.answers = false) →
    ∃ t, runSteps k s = .next t ∧ t.seq = s.seq ∧ t.busOwn = true ∧ t.reqReady = false ∧
      t.results = s.results ∧ t.program = s.program ∧ t.rspValid = false

/-- No step but an acknowledged one of a transaction puts an exchange on the bus.
The rule (R129). -/
def Obligations.OnlyTransactionsExchange : Prop :=
  ∀ (s t : State), step s = .next t →
    (sentWords t.busLog = sentWords s.busLog ∨
      (s.seq ≠ .idle ∧ s.sampleInputs.xferAck = true ∧
        ∃ tx, s.xferTx = some tx ∧ sentWords t.busLog = sentWords s.busLog ++ [tx])) ∧
    (s.seq = .idle → s.xferReq = false → t.xferReq = true →
      ∃ line rest i, s.program = line :: rest ∧ line.issue s.sampleInputs = i ∧
        ((∃ addr, i = .rdReg addr) ∨ (∃ addr data, i = .wrReg addr data)))

/-- No step, reset included, changes CS_ID, and it is what every exchange drives.
The rule (R22). -/
def Obligations.ChipSelectIdentifierNeverChanges : Prop :=
  (∀ (s t : State), step s = .next t → t.csId = s.csId ∧ t.xferCs = s.csId) ∧
  State.reset.csId = Config.csId

/-- Reset in any step: IDLE, bus and signals low, no result register with a value, CS_ID kept, lines kept (log entry 26).
Derived from (spec/70_reset_and_hazards.md section 1). -/
def Obligations.ResetAppliesInAnyState : Prop :=
  ∀ (s : State) (e : EnvStep) (later : List EnvStep), s.stimulus = e :: later → e.reset = true →
    ∃ t, step s = .next t ∧ t.seq = .idle ∧ t.busOwn = false ∧ t.xferReq = false ∧
      t.rspValid = false ∧ t.frameSet = false ∧ t.valSet = false ∧ t.peSet = false ∧
      t.efSet = false ∧ t.errSet = false ∧ t.csId = s.csId ∧ t.xferTx = none ∧
      t.program = s.program ∧ t.stimulus = later ∧
      (e.ack.answers = false → sentWords t.busLog = sentWords s.busLog) ∧
      (e.ack.answers = true → sentWords t.busLog = sentWords s.busLog ∨
        ∃ tx, s.xferTx = some tx ∧ sentWords t.busLog = sentWords s.busLog ++ [tx])

/-- The late acknowledgement of an abandoned exchange changes nothing (a separate signal by the model's choice, log entry 12).
Derived from (spec/70_reset_and_hazards.md section 1). -/
def Obligations.LateAcknowledgementIsIgnored : Prop :=
  ∀ (s : State) (reset foreign : Bool) (rx : Frame) (later : List EnvStep),
    step { s with stimulus := ⟨reset, foreign, .late rx⟩ :: later } =
      step { s with stimulus := ⟨reset, foreign, .none⟩ :: later }

/-- The reset values of the spec's table.
Derived from (spec/10_state.md section 5). -/
def Obligations.ResetStateValues : Prop :=
  State.reset.seq = .idle ∧ State.reset.busOwn = false ∧ State.reset.rspValid = false ∧
  State.reset.xferReq = false ∧ State.reset.csId = Config.csId ∧ State.reset.frameSet = false ∧
  State.reset.valSet = false ∧ State.reset.peSet = false ∧ State.reset.efSet = false ∧
  State.reset.errSet = false ∧ State.reset.reqReady = true

/-- A line runs its operation on literals and copied registers; RSP_VAL gives bits 15:0 (log entries 1, 5, 7, 10).
Derived from (spec/30_encoding.md section 4). -/
def Obligations.AssembledLinesCopyTheirOperands : Prop :=
  ∀ (s : State) (rest : List Line), s.seq = .idle → s.sampleInputs.resetIn = false →
    let run : Bool → Instr → Host.Outcome State Fault Refusal := fun flagged i =>
      exec i { s.sampleInputs with program := rest, noValueRead := s.noValueRead || flagged }
    (∀ (op : BitVec 4) (a b : Operand) (c : BitVec 10), s.program = .asm op a b c :: rest →
      step s = run (!s.readable a || !s.readable b) (decodeRequest (requestWord op (s.copied a) (s.copied b) c))) ∧
    (s.program = .readAngle :: rest → step s = run false .readAngle) ∧
    (∀ (x y : Operand),
      (s.program = .writeZpos x y :: rest →
        step s = run (!s.readable x || !s.readable y) (.writeZpos (s.copied x) (s.copied y))) ∧
      (s.program = .writeSettings1 x :: rest → step s = run (!s.readable x) (.writeSettings1 (s.copied x))) ∧
      (s.program = .writeSettings2 x :: rest → step s = run (!s.readable x) (.writeSettings2 (s.copied x))) ∧
      (s.program = .readRegister x :: rest → step s = run (!s.readable x) (.readRegister (s.copied x))) ∧
      (s.program = .writeRegister x y :: rest →
        step s = run (!s.readable x || !s.readable y) (.writeRegister (s.copied x) (s.copied y))))

/-- Each of the ten assembler forms presents its operation on its operands; a register name is its address.
Derived from (spec/30_encoding.md section 4, spec/30_encoding.md section 2). -/
def Obligations.AssemblerFormsPresentTheirOperation : Prop :=
  (∀ (s : State) (a b : Operand) (read : Bool) (d : FieldDesc),
    (asmParGen a).issue s = .parGen (s.copied a) ∧
    (asmParChk a).issue s = .parChk (s.copied a) ∧
    (asmCmdEnc a read).issue s = .cmdEnc ((s.copied a).extractLsb' 0 14) read ∧
    (asmDatEnc a).issue s = .datEnc ((s.copied a).extractLsb' 0 14) ∧
    (asmFrmDec a).issue s = .frmDec (s.copied a) ∧
    (asmFldGet a d).issue s = .fldGet (s.copied a) d ∧
    (asmFldSet a b d).issue s = .fldSet (s.copied a) (s.copied b) d ∧
    (asmAngScl a).issue s = .angScl ((s.copied a).extractLsb' 0 14) ∧
    (asmRdReg a).issue s = .rdReg ((s.copied a).extractLsb' 0 14) ∧
    (asmWrReg a b).issue s = .wrReg ((s.copied a).extractLsb' 0 14) ((s.copied b).extractLsb' 0 14)) ∧
  (∀ (s : State) (r : RegName), s.readable (.reg r) = true ∧
    (s.copied (.reg r)).extractLsb' 0 14 = r.address)

/-- An operation is accepted exactly when req_valid and req_ready are 1 in the step (log entries 1, 5 and 7).
Derived from (spec/10_state.md section 2, spec/60_exceptions.md section 5). -/
def Obligations.HandshakeAcceptsAnOperation : Prop :=
  ∀ (s t : State), step s = .next t → s.sampleInputs.resetIn = false →
    (s.sampleInputs.reqReady = true → s.sampleInputs.reqValid = true →
      ∃ line i, s.program = line :: t.program ∧ line.issue s.sampleInputs = i ∧ isRequest i = true ∧
        exec i { s.sampleInputs with program := t.program, noValueRead := t.noValueRead } = .next t) ∧
    (s.sampleInputs.reqReady = true → s.sampleInputs.reqValid = false →
      t = { s.sampleInputs with program := t.program, noValueRead := t.noValueRead }) ∧
    (s.sampleInputs.reqReady = false → t.program = s.program)

/-- A request presented and not accepted is presented again in the next step, with the same word (log entries 5, 26).
Derived from (spec/60_exceptions.md section 5, spec/43_sequencer.md section 1). -/
def Obligations.PresentedRequestIsHeldSteady : Prop :=
  ∀ (s t : State), step s = .next t → s.sampleInputs.reqValid = true →
    (s.seq ≠ .idle ∨ s.sampleInputs.resetIn = true) →
    t.program = s.program ∧ t.sampleInputs.reqValid = true ∧
      ∀ line rest, s.program = line :: rest →
        line.issue t.sampleInputs = line.issue s.sampleInputs

/-- An acknowledgement in the step of a reset ends its exchange and nothing more (log entries 12 and 23).
Derived from (spec/70_reset_and_hazards.md section 1, spec/95_test_vectors.md section 3.7). -/
def Obligations.AcknowledgementInTheStepOfAReset : Prop :=
  ∀ (s : State) (foreign : Bool) (rx tx : Frame) (later : List EnvStep), s.xferTx = some tx →
    s.stimulus = ⟨true, foreign, .ack rx⟩ :: later →
    ∃ t, step s = .next t ∧ t.seq = .idle ∧ t.busOwn = false ∧ t.xferReq = false ∧ t.rspValid = false ∧
      t.frameSet = false ∧ t.valSet = false ∧ t.peSet = false ∧ t.efSet = false ∧ t.errSet = false ∧
      t.xferTx = none ∧ sentWords t.busLog = sentWords s.busLog ++ [tx] ∧ adjacent t.busLog = false
end

