-- ==== Sys2Proof/Laws/Encoding.lean ====
section
/-! SUPPORT. The fields of the words the encoder builds. -/

namespace Sys2Proof

@[simp] theorem requestOp_requestWord (op : BitVec 4) (a b : Frame) (c : BitVec 10) :
    requestOp (requestWord op a b c) = op := by
  unfold requestOp requestWord
  ext i hi
  simp [BitVec.getLsbD_eq_getElem, hi, show i < 46 by omega, show i < 36 by omega,
    show i < 20 by omega]

@[simp] theorem requestA_requestWord (op : BitVec 4) (a b : Frame) (c : BitVec 10) :
    requestA (requestWord op a b c) = a := by
  unfold requestA requestWord
  ext i hi
  simp [BitVec.getLsbD_eq_getElem, hi, show 4 + i < 46 by omega, show 4 + i < 36 by omega,
    show 4 + i < 20 by omega]

@[simp] theorem requestB_requestWord (op : BitVec 4) (a b : Frame) (c : BitVec 10) :
    requestB (requestWord op a b c) = b := by
  unfold requestB requestWord
  ext i hi
  simp [BitVec.getLsbD_eq_getElem, hi, show 20 + i < 46 by omega, show 20 + i < 36 by omega,
    BitVec.getLsbD_of_ge a (20 + i - 4) (by omega), BitVec.getLsbD_of_ge op (20 + i) (by omega)]

@[simp] theorem requestC_requestWord (op : BitVec 4) (a b : Frame) (c : BitVec 10) :
    requestC (requestWord op a b c) = c := by
  unfold requestC requestWord
  ext i hi
  simp [BitVec.getLsbD_eq_getElem, hi, show 36 + i < 46 by omega,
    BitVec.getLsbD_of_ge b (36 + i - 20) (by omega), BitVec.getLsbD_of_ge a (36 + i - 4) (by omega),
    BitVec.getLsbD_of_ge op (36 + i) (by omega)]

@[simp] theorem frameLow_packFrame (b15 b14 : Bool) (low : Field14) :
    frameLow (packFrame b15 b14 low) = low := by
  unfold frameLow packFrame
  ext i hi
  simp [hi, BitVec.getLsbD_eq_getElem, show i < 16 by omega, show i < 15 by omega]

@[simp] theorem frameBit14_packFrame (b15 b14 : Bool) (low : Field14) :
    frameBit14 (packFrame b15 b14 low) = b14 := by
  simp [frameBit14, packFrame]

@[simp] theorem frameBit15_packFrame (b15 b14 : Bool) (low : Field14) :
    frameBit15 (packFrame b15 b14 low) = b15 := by
  simp [frameBit15, packFrame]

@[simp] theorem descOfC_cOfDesc (d : FieldDesc) : descOfC (cOfDesc d) = d := by
  obtain ⟨o, w, b⟩ := d
  simp only [descOfC, cOfDesc, FieldDesc.mk.injEq]
  refine ⟨?_, ?_, ?_⟩
  · ext i hi
    simp [hi, BitVec.getLsbD_eq_getElem, show i < 10 by omega, show i < 9 by omega]
  · ext i hi
    simp [hi, BitVec.getLsbD_eq_getElem, show 4 + i < 10 by omega, show 4 + i < 9 by omega]
  · simp

/-- A frame is its three fields. -/
theorem packFrame_fields (f : Frame) :
    packFrame (frameBit15 f) (frameBit14 f) (frameLow f) = f := by
  unfold packFrame frameBit15 frameBit14 frameLow
  ext i hi
  rcases (by omega : i < 14 ∨ i = 14 ∨ i = 15) with h | rfl | rfl
  · simp [h, BitVec.getLsbD_eq_getElem, hi, show i < 15 by omega]
  · simp
  · simp

end Sys2Proof
end

