-- ==== Sys2Proof/Laws/State.lean ====
section
/-! SUPPORT. One lemma per field per update of the state, true by rfl. -/

namespace Sys2Proof.Machine

variable (s : State)

/-! `State.setRspFrame` -/

@[simp] theorem setRspFrame_csId (v : Frame) : (s.setRspFrame v).csId = s.csId := rfl
@[simp] theorem setRspFrame_seq (v : Frame) : (s.setRspFrame v).seq = s.seq := rfl
@[simp] theorem setRspFrame_busOwn (v : Frame) : (s.setRspFrame v).busOwn = s.busOwn := rfl
@[simp] theorem setRspFrame_tx1 (v : Frame) : (s.setRspFrame v).tx1 = s.tx1 := rfl
@[simp] theorem setRspFrame_tx2 (v : Frame) : (s.setRspFrame v).tx2 = s.tx2 := rfl
@[simp] theorem setRspFrame_rspFrame (v : Frame) : (s.setRspFrame v).rspFrame = v := rfl
@[simp] theorem setRspFrame_rspVal (v : Frame) : (s.setRspFrame v).rspVal = s.rspVal := rfl
@[simp] theorem setRspFrame_rspPe (v : Frame) : (s.setRspFrame v).rspPe = s.rspPe := rfl
@[simp] theorem setRspFrame_rspEf (v : Frame) : (s.setRspFrame v).rspEf = s.rspEf := rfl
@[simp] theorem setRspFrame_rspErr (v : Frame) : (s.setRspFrame v).rspErr = s.rspErr := rfl
@[simp] theorem setRspFrame_frameSet (v : Frame) : (s.setRspFrame v).frameSet = true := rfl
@[simp] theorem setRspFrame_valSet (v : Frame) : (s.setRspFrame v).valSet = s.valSet := rfl
@[simp] theorem setRspFrame_peSet (v : Frame) : (s.setRspFrame v).peSet = s.peSet := rfl
@[simp] theorem setRspFrame_efSet (v : Frame) : (s.setRspFrame v).efSet = s.efSet := rfl
@[simp] theorem setRspFrame_errSet (v : Frame) : (s.setRspFrame v).errSet = s.errSet := rfl
@[simp] theorem setRspFrame_rspValid (v : Frame) : (s.setRspFrame v).rspValid = s.rspValid := rfl
@[simp] theorem setRspFrame_xferReq (v : Frame) : (s.setRspFrame v).xferReq = s.xferReq := rfl
@[simp] theorem setRspFrame_xferAck (v : Frame) : (s.setRspFrame v).xferAck = s.xferAck := rfl
@[simp] theorem setRspFrame_xferRx (v : Frame) : (s.setRspFrame v).xferRx = s.xferRx := rfl
@[simp] theorem setRspFrame_resetIn (v : Frame) : (s.setRspFrame v).resetIn = s.resetIn := rfl
@[simp] theorem setRspFrame_program (v : Frame) : (s.setRspFrame v).program = s.program := rfl
@[simp] theorem setRspFrame_stimulus (v : Frame) : (s.setRspFrame v).stimulus = s.stimulus := rfl
@[simp] theorem setRspFrame_noValueRead (v : Frame) : (s.setRspFrame v).noValueRead = s.noValueRead := rfl
@[simp] theorem setRspFrame_busLog (v : Frame) : (s.setRspFrame v).busLog = s.busLog := rfl

/-! `State.setRspVal` -/

@[simp] theorem setRspVal_csId (v : Value) : (s.setRspVal v).csId = s.csId := rfl
@[simp] theorem setRspVal_seq (v : Value) : (s.setRspVal v).seq = s.seq := rfl
@[simp] theorem setRspVal_busOwn (v : Value) : (s.setRspVal v).busOwn = s.busOwn := rfl
@[simp] theorem setRspVal_tx1 (v : Value) : (s.setRspVal v).tx1 = s.tx1 := rfl
@[simp] theorem setRspVal_tx2 (v : Value) : (s.setRspVal v).tx2 = s.tx2 := rfl
@[simp] theorem setRspVal_rspFrame (v : Value) : (s.setRspVal v).rspFrame = s.rspFrame := rfl
@[simp] theorem setRspVal_rspVal (v : Value) : (s.setRspVal v).rspVal = v := rfl
@[simp] theorem setRspVal_rspPe (v : Value) : (s.setRspVal v).rspPe = s.rspPe := rfl
@[simp] theorem setRspVal_rspEf (v : Value) : (s.setRspVal v).rspEf = s.rspEf := rfl
@[simp] theorem setRspVal_rspErr (v : Value) : (s.setRspVal v).rspErr = s.rspErr := rfl
@[simp] theorem setRspVal_frameSet (v : Value) : (s.setRspVal v).frameSet = s.frameSet := rfl
@[simp] theorem setRspVal_valSet (v : Value) : (s.setRspVal v).valSet = true := rfl
@[simp] theorem setRspVal_peSet (v : Value) : (s.setRspVal v).peSet = s.peSet := rfl
@[simp] theorem setRspVal_efSet (v : Value) : (s.setRspVal v).efSet = s.efSet := rfl
@[simp] theorem setRspVal_errSet (v : Value) : (s.setRspVal v).errSet = s.errSet := rfl
@[simp] theorem setRspVal_rspValid (v : Value) : (s.setRspVal v).rspValid = s.rspValid := rfl
@[simp] theorem setRspVal_xferReq (v : Value) : (s.setRspVal v).xferReq = s.xferReq := rfl
@[simp] theorem setRspVal_xferAck (v : Value) : (s.setRspVal v).xferAck = s.xferAck := rfl
@[simp] theorem setRspVal_xferRx (v : Value) : (s.setRspVal v).xferRx = s.xferRx := rfl
@[simp] theorem setRspVal_resetIn (v : Value) : (s.setRspVal v).resetIn = s.resetIn := rfl
@[simp] theorem setRspVal_program (v : Value) : (s.setRspVal v).program = s.program := rfl
@[simp] theorem setRspVal_stimulus (v : Value) : (s.setRspVal v).stimulus = s.stimulus := rfl
@[simp] theorem setRspVal_noValueRead (v : Value) : (s.setRspVal v).noValueRead = s.noValueRead := rfl
@[simp] theorem setRspVal_busLog (v : Value) : (s.setRspVal v).busLog = s.busLog := rfl

/-! `State.setRspPe` -/

@[simp] theorem setRspPe_csId (b : Bool) : (s.setRspPe b).csId = s.csId := rfl
@[simp] theorem setRspPe_seq (b : Bool) : (s.setRspPe b).seq = s.seq := rfl
@[simp] theorem setRspPe_busOwn (b : Bool) : (s.setRspPe b).busOwn = s.busOwn := rfl
@[simp] theorem setRspPe_tx1 (b : Bool) : (s.setRspPe b).tx1 = s.tx1 := rfl
@[simp] theorem setRspPe_tx2 (b : Bool) : (s.setRspPe b).tx2 = s.tx2 := rfl
@[simp] theorem setRspPe_rspFrame (b : Bool) : (s.setRspPe b).rspFrame = s.rspFrame := rfl
@[simp] theorem setRspPe_rspVal (b : Bool) : (s.setRspPe b).rspVal = s.rspVal := rfl
@[simp] theorem setRspPe_rspPe (b : Bool) : (s.setRspPe b).rspPe = b := rfl
@[simp] theorem setRspPe_rspEf (b : Bool) : (s.setRspPe b).rspEf = s.rspEf := rfl
@[simp] theorem setRspPe_rspErr (b : Bool) : (s.setRspPe b).rspErr = s.rspErr := rfl
@[simp] theorem setRspPe_frameSet (b : Bool) : (s.setRspPe b).frameSet = s.frameSet := rfl
@[simp] theorem setRspPe_valSet (b : Bool) : (s.setRspPe b).valSet = s.valSet := rfl
@[simp] theorem setRspPe_peSet (b : Bool) : (s.setRspPe b).peSet = true := rfl
@[simp] theorem setRspPe_efSet (b : Bool) : (s.setRspPe b).efSet = s.efSet := rfl
@[simp] theorem setRspPe_errSet (b : Bool) : (s.setRspPe b).errSet = s.errSet := rfl
@[simp] theorem setRspPe_rspValid (b : Bool) : (s.setRspPe b).rspValid = s.rspValid := rfl
@[simp] theorem setRspPe_xferReq (b : Bool) : (s.setRspPe b).xferReq = s.xferReq := rfl
@[simp] theorem setRspPe_xferAck (b : Bool) : (s.setRspPe b).xferAck = s.xferAck := rfl
@[simp] theorem setRspPe_xferRx (b : Bool) : (s.setRspPe b).xferRx = s.xferRx := rfl
@[simp] theorem setRspPe_resetIn (b : Bool) : (s.setRspPe b).resetIn = s.resetIn := rfl
@[simp] theorem setRspPe_program (b : Bool) : (s.setRspPe b).program = s.program := rfl
@[simp] theorem setRspPe_stimulus (b : Bool) : (s.setRspPe b).stimulus = s.stimulus := rfl
@[simp] theorem setRspPe_noValueRead (b : Bool) : (s.setRspPe b).noValueRead = s.noValueRead := rfl
@[simp] theorem setRspPe_busLog (b : Bool) : (s.setRspPe b).busLog = s.busLog := rfl

/-! `State.setRspEf` -/

@[simp] theorem setRspEf_csId (b : Bool) : (s.setRspEf b).csId = s.csId := rfl
@[simp] theorem setRspEf_seq (b : Bool) : (s.setRspEf b).seq = s.seq := rfl
@[simp] theorem setRspEf_busOwn (b : Bool) : (s.setRspEf b).busOwn = s.busOwn := rfl
@[simp] theorem setRspEf_tx1 (b : Bool) : (s.setRspEf b).tx1 = s.tx1 := rfl
@[simp] theorem setRspEf_tx2 (b : Bool) : (s.setRspEf b).tx2 = s.tx2 := rfl
@[simp] theorem setRspEf_rspFrame (b : Bool) : (s.setRspEf b).rspFrame = s.rspFrame := rfl
@[simp] theorem setRspEf_rspVal (b : Bool) : (s.setRspEf b).rspVal = s.rspVal := rfl
@[simp] theorem setRspEf_rspPe (b : Bool) : (s.setRspEf b).rspPe = s.rspPe := rfl
@[simp] theorem setRspEf_rspEf (b : Bool) : (s.setRspEf b).rspEf = b := rfl
@[simp] theorem setRspEf_rspErr (b : Bool) : (s.setRspEf b).rspErr = s.rspErr := rfl
@[simp] theorem setRspEf_frameSet (b : Bool) : (s.setRspEf b).frameSet = s.frameSet := rfl
@[simp] theorem setRspEf_valSet (b : Bool) : (s.setRspEf b).valSet = s.valSet := rfl
@[simp] theorem setRspEf_peSet (b : Bool) : (s.setRspEf b).peSet = s.peSet := rfl
@[simp] theorem setRspEf_efSet (b : Bool) : (s.setRspEf b).efSet = true := rfl
@[simp] theorem setRspEf_errSet (b : Bool) : (s.setRspEf b).errSet = s.errSet := rfl
@[simp] theorem setRspEf_rspValid (b : Bool) : (s.setRspEf b).rspValid = s.rspValid := rfl
@[simp] theorem setRspEf_xferReq (b : Bool) : (s.setRspEf b).xferReq = s.xferReq := rfl
@[simp] theorem setRspEf_xferAck (b : Bool) : (s.setRspEf b).xferAck = s.xferAck := rfl
@[simp] theorem setRspEf_xferRx (b : Bool) : (s.setRspEf b).xferRx = s.xferRx := rfl
@[simp] theorem setRspEf_resetIn (b : Bool) : (s.setRspEf b).resetIn = s.resetIn := rfl
@[simp] theorem setRspEf_program (b : Bool) : (s.setRspEf b).program = s.program := rfl
@[simp] theorem setRspEf_stimulus (b : Bool) : (s.setRspEf b).stimulus = s.stimulus := rfl
@[simp] theorem setRspEf_noValueRead (b : Bool) : (s.setRspEf b).noValueRead = s.noValueRead := rfl
@[simp] theorem setRspEf_busLog (b : Bool) : (s.setRspEf b).busLog = s.busLog := rfl

/-! `State.complete` -/

@[simp] theorem complete_csId (c : BitVec 2) : (s.complete c).csId = s.csId := rfl
@[simp] theorem complete_seq (c : BitVec 2) : (s.complete c).seq = .idle := rfl
@[simp] theorem complete_busOwn (c : BitVec 2) : (s.complete c).busOwn = s.busOwn := rfl
@[simp] theorem complete_tx1 (c : BitVec 2) : (s.complete c).tx1 = s.tx1 := rfl
@[simp] theorem complete_tx2 (c : BitVec 2) : (s.complete c).tx2 = s.tx2 := rfl
@[simp] theorem complete_rspFrame (c : BitVec 2) : (s.complete c).rspFrame = s.rspFrame := rfl
@[simp] theorem complete_rspVal (c : BitVec 2) : (s.complete c).rspVal = s.rspVal := rfl
@[simp] theorem complete_rspPe (c : BitVec 2) : (s.complete c).rspPe = s.rspPe := rfl
@[simp] theorem complete_rspEf (c : BitVec 2) : (s.complete c).rspEf = s.rspEf := rfl
@[simp] theorem complete_rspErr (c : BitVec 2) : (s.complete c).rspErr = c := rfl
@[simp] theorem complete_frameSet (c : BitVec 2) : (s.complete c).frameSet = s.frameSet := rfl
@[simp] theorem complete_valSet (c : BitVec 2) : (s.complete c).valSet = s.valSet := rfl
@[simp] theorem complete_peSet (c : BitVec 2) : (s.complete c).peSet = s.peSet := rfl
@[simp] theorem complete_efSet (c : BitVec 2) : (s.complete c).efSet = s.efSet := rfl
@[simp] theorem complete_errSet (c : BitVec 2) : (s.complete c).errSet = true := rfl
@[simp] theorem complete_rspValid (c : BitVec 2) : (s.complete c).rspValid = true := rfl
@[simp] theorem complete_xferReq (c : BitVec 2) : (s.complete c).xferReq = s.xferReq := rfl
@[simp] theorem complete_xferAck (c : BitVec 2) : (s.complete c).xferAck = s.xferAck := rfl
@[simp] theorem complete_xferRx (c : BitVec 2) : (s.complete c).xferRx = s.xferRx := rfl
@[simp] theorem complete_resetIn (c : BitVec 2) : (s.complete c).resetIn = s.resetIn := rfl
@[simp] theorem complete_program (c : BitVec 2) : (s.complete c).program = s.program := rfl
@[simp] theorem complete_stimulus (c : BitVec 2) : (s.complete c).stimulus = s.stimulus := rfl
@[simp] theorem complete_noValueRead (c : BitVec 2) : (s.complete c).noValueRead = s.noValueRead := rfl
@[simp] theorem complete_busLog (c : BitVec 2) : (s.complete c).busLog = s.busLog := rfl

/-! `State.releaseBus` -/

@[simp] theorem releaseBus_csId : (s.releaseBus).csId = s.csId := rfl
@[simp] theorem releaseBus_seq : (s.releaseBus).seq = s.seq := rfl
@[simp] theorem releaseBus_busOwn : (s.releaseBus).busOwn = false := rfl
@[simp] theorem releaseBus_tx1 : (s.releaseBus).tx1 = s.tx1 := rfl
@[simp] theorem releaseBus_tx2 : (s.releaseBus).tx2 = s.tx2 := rfl
@[simp] theorem releaseBus_rspFrame : (s.releaseBus).rspFrame = s.rspFrame := rfl
@[simp] theorem releaseBus_rspVal : (s.releaseBus).rspVal = s.rspVal := rfl
@[simp] theorem releaseBus_rspPe : (s.releaseBus).rspPe = s.rspPe := rfl
@[simp] theorem releaseBus_rspEf : (s.releaseBus).rspEf = s.rspEf := rfl
@[simp] theorem releaseBus_rspErr : (s.releaseBus).rspErr = s.rspErr := rfl
@[simp] theorem releaseBus_frameSet : (s.releaseBus).frameSet = s.frameSet := rfl
@[simp] theorem releaseBus_valSet : (s.releaseBus).valSet = s.valSet := rfl
@[simp] theorem releaseBus_peSet : (s.releaseBus).peSet = s.peSet := rfl
@[simp] theorem releaseBus_efSet : (s.releaseBus).efSet = s.efSet := rfl
@[simp] theorem releaseBus_errSet : (s.releaseBus).errSet = s.errSet := rfl
@[simp] theorem releaseBus_rspValid : (s.releaseBus).rspValid = s.rspValid := rfl
@[simp] theorem releaseBus_xferReq : (s.releaseBus).xferReq = false := rfl
@[simp] theorem releaseBus_xferAck : (s.releaseBus).xferAck = s.xferAck := rfl
@[simp] theorem releaseBus_xferRx : (s.releaseBus).xferRx = s.xferRx := rfl
@[simp] theorem releaseBus_resetIn : (s.releaseBus).resetIn = s.resetIn := rfl
@[simp] theorem releaseBus_program : (s.releaseBus).program = s.program := rfl
@[simp] theorem releaseBus_stimulus : (s.releaseBus).stimulus = s.stimulus := rfl
@[simp] theorem releaseBus_noValueRead : (s.releaseBus).noValueRead = s.noValueRead := rfl
@[simp] theorem releaseBus_busLog : (s.releaseBus).busLog = s.busLog := rfl

/-! `State.startTransaction` -/

@[simp] theorem startTransaction_csId (q : Seq) (t1 t2 : Frame) : (s.startTransaction q t1 t2).csId = s.csId := rfl
@[simp] theorem startTransaction_seq (q : Seq) (t1 t2 : Frame) : (s.startTransaction q t1 t2).seq = q := rfl
@[simp] theorem startTransaction_busOwn (q : Seq) (t1 t2 : Frame) : (s.startTransaction q t1 t2).busOwn = true := rfl
@[simp] theorem startTransaction_tx1 (q : Seq) (t1 t2 : Frame) : (s.startTransaction q t1 t2).tx1 = t1 := rfl
@[simp] theorem startTransaction_tx2 (q : Seq) (t1 t2 : Frame) : (s.startTransaction q t1 t2).tx2 = t2 := rfl
@[simp] theorem startTransaction_rspFrame (q : Seq) (t1 t2 : Frame) : (s.startTransaction q t1 t2).rspFrame = s.rspFrame := rfl
@[simp] theorem startTransaction_rspVal (q : Seq) (t1 t2 : Frame) : (s.startTransaction q t1 t2).rspVal = s.rspVal := rfl
@[simp] theorem startTransaction_rspPe (q : Seq) (t1 t2 : Frame) : (s.startTransaction q t1 t2).rspPe = s.rspPe := rfl
@[simp] theorem startTransaction_rspEf (q : Seq) (t1 t2 : Frame) : (s.startTransaction q t1 t2).rspEf = s.rspEf := rfl
@[simp] theorem startTransaction_rspErr (q : Seq) (t1 t2 : Frame) : (s.startTransaction q t1 t2).rspErr = s.rspErr := rfl
@[simp] theorem startTransaction_frameSet (q : Seq) (t1 t2 : Frame) : (s.startTransaction q t1 t2).frameSet = s.frameSet := rfl
@[simp] theorem startTransaction_valSet (q : Seq) (t1 t2 : Frame) : (s.startTransaction q t1 t2).valSet = s.valSet := rfl
@[simp] theorem startTransaction_peSet (q : Seq) (t1 t2 : Frame) : (s.startTransaction q t1 t2).peSet = s.peSet := rfl
@[simp] theorem startTransaction_efSet (q : Seq) (t1 t2 : Frame) : (s.startTransaction q t1 t2).efSet = s.efSet := rfl
@[simp] theorem startTransaction_errSet (q : Seq) (t1 t2 : Frame) : (s.startTransaction q t1 t2).errSet = s.errSet := rfl
@[simp] theorem startTransaction_rspValid (q : Seq) (t1 t2 : Frame) : (s.startTransaction q t1 t2).rspValid = s.rspValid := rfl
@[simp] theorem startTransaction_xferReq (q : Seq) (t1 t2 : Frame) : (s.startTransaction q t1 t2).xferReq = true := rfl
@[simp] theorem startTransaction_xferAck (q : Seq) (t1 t2 : Frame) : (s.startTransaction q t1 t2).xferAck = s.xferAck := rfl
@[simp] theorem startTransaction_xferRx (q : Seq) (t1 t2 : Frame) : (s.startTransaction q t1 t2).xferRx = s.xferRx := rfl
@[simp] theorem startTransaction_resetIn (q : Seq) (t1 t2 : Frame) : (s.startTransaction q t1 t2).resetIn = s.resetIn := rfl
@[simp] theorem startTransaction_program (q : Seq) (t1 t2 : Frame) : (s.startTransaction q t1 t2).program = s.program := rfl
@[simp] theorem startTransaction_stimulus (q : Seq) (t1 t2 : Frame) : (s.startTransaction q t1 t2).stimulus = s.stimulus := rfl
@[simp] theorem startTransaction_noValueRead (q : Seq) (t1 t2 : Frame) : (s.startTransaction q t1 t2).noValueRead = s.noValueRead := rfl
@[simp] theorem startTransaction_busLog (q : Seq) (t1 t2 : Frame) : (s.startTransaction q t1 t2).busLog = s.busLog := rfl

/-! `State.startSecond` -/

@[simp] theorem startSecond_csId (q : Seq) : (s.startSecond q).csId = s.csId := rfl
@[simp] theorem startSecond_seq (q : Seq) : (s.startSecond q).seq = q := rfl
@[simp] theorem startSecond_busOwn (q : Seq) : (s.startSecond q).busOwn = s.busOwn := rfl
@[simp] theorem startSecond_tx1 (q : Seq) : (s.startSecond q).tx1 = s.tx1 := rfl
@[simp] theorem startSecond_tx2 (q : Seq) : (s.startSecond q).tx2 = s.tx2 := rfl
@[simp] theorem startSecond_rspFrame (q : Seq) : (s.startSecond q).rspFrame = s.rspFrame := rfl
@[simp] theorem startSecond_rspVal (q : Seq) : (s.startSecond q).rspVal = s.rspVal := rfl
@[simp] theorem startSecond_rspPe (q : Seq) : (s.startSecond q).rspPe = s.rspPe := rfl
@[simp] theorem startSecond_rspEf (q : Seq) : (s.startSecond q).rspEf = s.rspEf := rfl
@[simp] theorem startSecond_rspErr (q : Seq) : (s.startSecond q).rspErr = s.rspErr := rfl
@[simp] theorem startSecond_frameSet (q : Seq) : (s.startSecond q).frameSet = s.frameSet := rfl
@[simp] theorem startSecond_valSet (q : Seq) : (s.startSecond q).valSet = s.valSet := rfl
@[simp] theorem startSecond_peSet (q : Seq) : (s.startSecond q).peSet = s.peSet := rfl
@[simp] theorem startSecond_efSet (q : Seq) : (s.startSecond q).efSet = s.efSet := rfl
@[simp] theorem startSecond_errSet (q : Seq) : (s.startSecond q).errSet = s.errSet := rfl
@[simp] theorem startSecond_rspValid (q : Seq) : (s.startSecond q).rspValid = s.rspValid := rfl
@[simp] theorem startSecond_xferReq (q : Seq) : (s.startSecond q).xferReq = s.xferReq := rfl
@[simp] theorem startSecond_xferAck (q : Seq) : (s.startSecond q).xferAck = s.xferAck := rfl
@[simp] theorem startSecond_xferRx (q : Seq) : (s.startSecond q).xferRx = s.xferRx := rfl
@[simp] theorem startSecond_resetIn (q : Seq) : (s.startSecond q).resetIn = s.resetIn := rfl
@[simp] theorem startSecond_program (q : Seq) : (s.startSecond q).program = s.program := rfl
@[simp] theorem startSecond_stimulus (q : Seq) : (s.startSecond q).stimulus = s.stimulus := rfl
@[simp] theorem startSecond_noValueRead (q : Seq) : (s.startSecond q).noValueRead = s.noValueRead := rfl
@[simp] theorem startSecond_busLog (q : Seq) : (s.startSecond q).busLog = s.busLog := rfl

/-! `State.recordExchange` -/

@[simp] theorem recordExchange_csId (t : Frame) : (s.recordExchange t).csId = s.csId := rfl
@[simp] theorem recordExchange_seq (t : Frame) : (s.recordExchange t).seq = s.seq := rfl
@[simp] theorem recordExchange_busOwn (t : Frame) : (s.recordExchange t).busOwn = s.busOwn := rfl
@[simp] theorem recordExchange_tx1 (t : Frame) : (s.recordExchange t).tx1 = s.tx1 := rfl
@[simp] theorem recordExchange_tx2 (t : Frame) : (s.recordExchange t).tx2 = s.tx2 := rfl
@[simp] theorem recordExchange_rspFrame (t : Frame) : (s.recordExchange t).rspFrame = s.rspFrame := rfl
@[simp] theorem recordExchange_rspVal (t : Frame) : (s.recordExchange t).rspVal = s.rspVal := rfl
@[simp] theorem recordExchange_rspPe (t : Frame) : (s.recordExchange t).rspPe = s.rspPe := rfl
@[simp] theorem recordExchange_rspEf (t : Frame) : (s.recordExchange t).rspEf = s.rspEf := rfl
@[simp] theorem recordExchange_rspErr (t : Frame) : (s.recordExchange t).rspErr = s.rspErr := rfl
@[simp] theorem recordExchange_frameSet (t : Frame) : (s.recordExchange t).frameSet = s.frameSet := rfl
@[simp] theorem recordExchange_valSet (t : Frame) : (s.recordExchange t).valSet = s.valSet := rfl
@[simp] theorem recordExchange_peSet (t : Frame) : (s.recordExchange t).peSet = s.peSet := rfl
@[simp] theorem recordExchange_efSet (t : Frame) : (s.recordExchange t).efSet = s.efSet := rfl
@[simp] theorem recordExchange_errSet (t : Frame) : (s.recordExchange t).errSet = s.errSet := rfl
@[simp] theorem recordExchange_rspValid (t : Frame) : (s.recordExchange t).rspValid = s.rspValid := rfl
@[simp] theorem recordExchange_xferReq (t : Frame) : (s.recordExchange t).xferReq = s.xferReq := rfl
@[simp] theorem recordExchange_xferAck (t : Frame) : (s.recordExchange t).xferAck = s.xferAck := rfl
@[simp] theorem recordExchange_xferRx (t : Frame) : (s.recordExchange t).xferRx = s.xferRx := rfl
@[simp] theorem recordExchange_resetIn (t : Frame) : (s.recordExchange t).resetIn = s.resetIn := rfl
@[simp] theorem recordExchange_program (t : Frame) : (s.recordExchange t).program = s.program := rfl
@[simp] theorem recordExchange_stimulus (t : Frame) : (s.recordExchange t).stimulus = s.stimulus := rfl
@[simp] theorem recordExchange_noValueRead (t : Frame) : (s.recordExchange t).noValueRead = s.noValueRead := rfl
@[simp] theorem recordExchange_busLog (t : Frame) : (s.recordExchange t).busLog = s.busLog ++ [.exchange s.csId t s.xferRx] := rfl

/-! `State.issueFirst` -/

@[simp] theorem issueFirst_csId (l : List Line) : (s.issueFirst l).csId = s.csId := rfl
@[simp] theorem issueFirst_seq (l : List Line) : (s.issueFirst l).seq = s.seq := rfl
@[simp] theorem issueFirst_busOwn (l : List Line) : (s.issueFirst l).busOwn = s.busOwn := rfl
@[simp] theorem issueFirst_tx1 (l : List Line) : (s.issueFirst l).tx1 = s.tx1 := rfl
@[simp] theorem issueFirst_tx2 (l : List Line) : (s.issueFirst l).tx2 = s.tx2 := rfl
@[simp] theorem issueFirst_rspFrame (l : List Line) : (s.issueFirst l).rspFrame = s.rspFrame := rfl
@[simp] theorem issueFirst_rspVal (l : List Line) : (s.issueFirst l).rspVal = s.rspVal := rfl
@[simp] theorem issueFirst_rspPe (l : List Line) : (s.issueFirst l).rspPe = s.rspPe := rfl
@[simp] theorem issueFirst_rspEf (l : List Line) : (s.issueFirst l).rspEf = s.rspEf := rfl
@[simp] theorem issueFirst_rspErr (l : List Line) : (s.issueFirst l).rspErr = s.rspErr := rfl
@[simp] theorem issueFirst_frameSet (l : List Line) : (s.issueFirst l).frameSet = s.frameSet := rfl
@[simp] theorem issueFirst_valSet (l : List Line) : (s.issueFirst l).valSet = s.valSet := rfl
@[simp] theorem issueFirst_peSet (l : List Line) : (s.issueFirst l).peSet = s.peSet := rfl
@[simp] theorem issueFirst_efSet (l : List Line) : (s.issueFirst l).efSet = s.efSet := rfl
@[simp] theorem issueFirst_errSet (l : List Line) : (s.issueFirst l).errSet = s.errSet := rfl
@[simp] theorem issueFirst_rspValid (l : List Line) : (s.issueFirst l).rspValid = s.rspValid := rfl
@[simp] theorem issueFirst_xferReq (l : List Line) : (s.issueFirst l).xferReq = s.xferReq := rfl
@[simp] theorem issueFirst_xferAck (l : List Line) : (s.issueFirst l).xferAck = s.xferAck := rfl
@[simp] theorem issueFirst_xferRx (l : List Line) : (s.issueFirst l).xferRx = s.xferRx := rfl
@[simp] theorem issueFirst_resetIn (l : List Line) : (s.issueFirst l).resetIn = s.resetIn := rfl
@[simp] theorem issueFirst_program (l : List Line) : (s.issueFirst l).program = l ++ s.program := rfl
@[simp] theorem issueFirst_stimulus (l : List Line) : (s.issueFirst l).stimulus = s.stimulus := rfl
@[simp] theorem issueFirst_noValueRead (l : List Line) : (s.issueFirst l).noValueRead = s.noValueRead := rfl
@[simp] theorem issueFirst_busLog (l : List Line) : (s.issueFirst l).busLog = s.busLog := rfl

/-! `State.loadDataFrame` -/

@[simp] theorem loadDataFrame_csId (f : Frame) : (s.loadDataFrame f).csId = s.csId := rfl
@[simp] theorem loadDataFrame_seq (f : Frame) : (s.loadDataFrame f).seq = s.seq := rfl
@[simp] theorem loadDataFrame_busOwn (f : Frame) : (s.loadDataFrame f).busOwn = s.busOwn := rfl
@[simp] theorem loadDataFrame_tx1 (f : Frame) : (s.loadDataFrame f).tx1 = s.tx1 := rfl
@[simp] theorem loadDataFrame_tx2 (f : Frame) : (s.loadDataFrame f).tx2 = s.tx2 := rfl
@[simp] theorem loadDataFrame_rspFrame (f : Frame) : (s.loadDataFrame f).rspFrame = f := rfl
@[simp] theorem loadDataFrame_rspVal (f : Frame) : (s.loadDataFrame f).rspVal = (frameLow f).setWidth 20 := rfl
@[simp] theorem loadDataFrame_rspPe (f : Frame) : (s.loadDataFrame f).rspPe = parityFault f := rfl
@[simp] theorem loadDataFrame_rspEf (f : Frame) : (s.loadDataFrame f).rspEf = errorFlag f := rfl
@[simp] theorem loadDataFrame_rspErr (f : Frame) : (s.loadDataFrame f).rspErr = s.rspErr := rfl
@[simp] theorem loadDataFrame_frameSet (f : Frame) : (s.loadDataFrame f).frameSet = true := rfl
@[simp] theorem loadDataFrame_valSet (f : Frame) : (s.loadDataFrame f).valSet = true := rfl
@[simp] theorem loadDataFrame_peSet (f : Frame) : (s.loadDataFrame f).peSet = true := rfl
@[simp] theorem loadDataFrame_efSet (f : Frame) : (s.loadDataFrame f).efSet = true := rfl
@[simp] theorem loadDataFrame_errSet (f : Frame) : (s.loadDataFrame f).errSet = s.errSet := rfl
@[simp] theorem loadDataFrame_rspValid (f : Frame) : (s.loadDataFrame f).rspValid = s.rspValid := rfl
@[simp] theorem loadDataFrame_xferReq (f : Frame) : (s.loadDataFrame f).xferReq = s.xferReq := rfl
@[simp] theorem loadDataFrame_xferAck (f : Frame) : (s.loadDataFrame f).xferAck = s.xferAck := rfl
@[simp] theorem loadDataFrame_xferRx (f : Frame) : (s.loadDataFrame f).xferRx = s.xferRx := rfl
@[simp] theorem loadDataFrame_resetIn (f : Frame) : (s.loadDataFrame f).resetIn = s.resetIn := rfl
@[simp] theorem loadDataFrame_program (f : Frame) : (s.loadDataFrame f).program = s.program := rfl
@[simp] theorem loadDataFrame_stimulus (f : Frame) : (s.loadDataFrame f).stimulus = s.stimulus := rfl
@[simp] theorem loadDataFrame_noValueRead (f : Frame) : (s.loadDataFrame f).noValueRead = s.noValueRead := rfl
@[simp] theorem loadDataFrame_busLog (f : Frame) : (s.loadDataFrame f).busLog = s.busLog := rfl

/-! `State.applyReset` -/

@[simp] theorem applyReset_csId : (s.applyReset).csId = s.csId := rfl
@[simp] theorem applyReset_seq : (s.applyReset).seq = .idle := rfl
@[simp] theorem applyReset_busOwn : (s.applyReset).busOwn = false := rfl
@[simp] theorem applyReset_tx1 : (s.applyReset).tx1 = 0 := rfl
@[simp] theorem applyReset_tx2 : (s.applyReset).tx2 = 0 := rfl
@[simp] theorem applyReset_rspFrame : (s.applyReset).rspFrame = Config.resetRspFrame := rfl
@[simp] theorem applyReset_rspVal : (s.applyReset).rspVal = Config.resetRspVal := rfl
@[simp] theorem applyReset_rspPe : (s.applyReset).rspPe = Config.resetRspPe := rfl
@[simp] theorem applyReset_rspEf : (s.applyReset).rspEf = Config.resetRspEf := rfl
@[simp] theorem applyReset_rspErr : (s.applyReset).rspErr = Config.resetRspErr := rfl
@[simp] theorem applyReset_frameSet : (s.applyReset).frameSet = false := rfl
@[simp] theorem applyReset_valSet : (s.applyReset).valSet = false := rfl
@[simp] theorem applyReset_peSet : (s.applyReset).peSet = false := rfl
@[simp] theorem applyReset_efSet : (s.applyReset).efSet = false := rfl
@[simp] theorem applyReset_errSet : (s.applyReset).errSet = false := rfl
@[simp] theorem applyReset_rspValid : (s.applyReset).rspValid = false := rfl
@[simp] theorem applyReset_xferReq : (s.applyReset).xferReq = false := rfl
@[simp] theorem applyReset_xferAck : (s.applyReset).xferAck = s.xferAck := rfl
@[simp] theorem applyReset_xferRx : (s.applyReset).xferRx = s.xferRx := rfl
@[simp] theorem applyReset_resetIn : (s.applyReset).resetIn = s.resetIn := rfl
@[simp] theorem applyReset_program : (s.applyReset).program = s.program := rfl
@[simp] theorem applyReset_stimulus : (s.applyReset).stimulus = s.stimulus := rfl
@[simp] theorem applyReset_noValueRead : (s.applyReset).noValueRead = s.noValueRead := rfl
@[simp] theorem applyReset_busLog : (s.applyReset).busLog = s.recordReset := rfl

end Sys2Proof.Machine
end

