-- ==== Sys2Proof/Laws/Ops.lean ====
section
/-! SUPPORT. One lemma for each shared operation that says what it can do, and one for `step`. -/

namespace Sys2Proof.Machine

/-- An operation presented in IDLE is performed. -/
theorem perform_idle (f : State → State) {s : State} (h : s.seq = .idle) :
    s.perform f = .next (f s) := by
  simp [State.perform, State.reqReady, h]

/-- An operation presented outside IDLE is held. -/
theorem perform_busy (f : State → State) {s : State} (h : s.seq ≠ .idle) :
    s.perform f = .next s := by
  simp [State.perform, State.reqReady, h]

/-- All an operation can do. -/
theorem perform_cases {f : State → State} {s t : State} (h : s.perform f = .next t) :
    (s.seq = .idle ∧ t = f s) ∨ (s.seq ≠ .idle ∧ t = s) := by
  by_cases hs : s.seq = .idle
  · rw [perform_idle f hs] at h
    exact .inl ⟨hs, (Host.Outcome.next.inj h).symm⟩
  · rw [perform_busy f hs] at h
    exact .inr ⟨hs, (Host.Outcome.next.inj h).symm⟩

/-- An acknowledged exchange is recorded and `k` follows. -/
theorem exchange_ack {pos : Seq} {s : State} (tx : Frame) (k : State → State)
    (hp : s.seq = pos) (ha : s.xferAck = true) :
    s.exchange pos tx k = .next (k (s.recordExchange tx)) := by
  simp [State.exchange, hp, ha]

/-- Without an acknowledgement the block is held. -/
theorem exchange_held {pos : Seq} {s : State} (tx : Frame) (k : State → State)
    (hp : s.seq = pos) (ha : s.xferAck = false) : s.exchange pos tx k = .next s := by
  simp [State.exchange, hp, ha]

/-- All an exchange that answers a next state can do. -/
theorem exchange_cases {pos : Seq} {tx : Frame} {k : State → State} {s t : State}
    (h : s.exchange pos tx k = .next t) :
    s.seq = pos ∧
      ((s.xferAck = true ∧ t = k (s.recordExchange tx)) ∨ (s.xferAck = false ∧ t = s)) := by
  by_cases hp : s.seq = pos
  · refine ⟨hp, ?_⟩
    cases ha : s.xferAck with
    | true =>
      rw [exchange_ack tx k hp ha] at h
      exact .inl ⟨rfl, (Host.Outcome.next.inj h).symm⟩
    | false =>
      rw [exchange_held tx k hp ha] at h
      exact .inr ⟨rfl, (Host.Outcome.next.inj h).symm⟩
  · simp [State.exchange, hp] at h

/-- All a fetch that gives an instruction can have found. -/
theorem fetch_cases {s u : State} {i : Instr} (h : s.fetch = .instr i u) :
    (s.seq = .idle ∧ ∃ line rest,
        s.program = line :: rest ∧ line.issue s = i ∧
          u = { s with program := rest, noValueRead := s.noValueRead || line.copiesNoValue s }) ∨
    (s.seq ≠ .idle ∧ ∃ c, s.frameOnBus = some c ∧ decode c = .ok i ∧ u = s) := by
  unfold State.fetch at h
  split at h
  · next hb =>
    have hi : s.seq = .idle := by
      cases hq : s.seq <;> simp [State.frameOnBus, hq] at hb ⊢
    unfold State.fetchLine at h
    split at h
    · cases h
    · next line rest hp =>
      obtain ⟨rfl, rfl⟩ := Fetched.instr.inj h
      exact .inl ⟨hi, line, rest, hp, rfl, rfl⟩
  · next c hb =>
    have hi : s.seq ≠ .idle := by
      intro hq
      simp [State.frameOnBus, hq] at hb
    unfold fetchFrame at h
    split at h
    · cases h
    · next j hj =>
      obtain ⟨rfl, rfl⟩ := Fetched.instr.inj h
      exact .inr ⟨hi, c, hb, hj, rfl⟩

/-- All a step can do: a reset, nothing to run, or the instruction fetched. -/
theorem step_cases {s t : State} (h : step s = .next t) :
    (s.sampleInputs.resetIn = true ∧ t = s.sampleInputs.applyReset) ∨
    (s.sampleInputs.resetIn = false ∧ s.sampleInputs.fetch = .nothing ∧ t = s.sampleInputs) ∨
    (s.sampleInputs.resetIn = false ∧ ∃ i u, s.sampleInputs.fetch = .instr i u ∧ exec i u = .next t) := by
  unfold step at h
  split at h
  · next hr => exact .inl ⟨hr, (Host.Outcome.next.inj h).symm⟩
  · next hr =>
    have hr' : s.sampleInputs.resetIn = false := by simpa using hr
    split at h
    · next hf => exact .inr (.inl ⟨hr', hf, (Host.Outcome.next.inj h).symm⟩)
    · next i u hf => exact .inr (.inr ⟨hr', i, u, hf, h⟩)
    · cases h

/-! What the sampling of the inputs leaves alone. -/

variable (s : State)

@[simp] theorem sampleInputs_csId : s.sampleInputs.csId = s.csId := by
  unfold State.sampleInputs; split <;> rfl
@[simp] theorem sampleInputs_seq : s.sampleInputs.seq = s.seq := by
  unfold State.sampleInputs; split <;> rfl
@[simp] theorem sampleInputs_busOwn : s.sampleInputs.busOwn = s.busOwn := by
  unfold State.sampleInputs; split <;> rfl
@[simp] theorem sampleInputs_tx1 : s.sampleInputs.tx1 = s.tx1 := by
  unfold State.sampleInputs; split <;> rfl
@[simp] theorem sampleInputs_tx2 : s.sampleInputs.tx2 = s.tx2 := by
  unfold State.sampleInputs; split <;> rfl
@[simp] theorem sampleInputs_rspFrame : s.sampleInputs.rspFrame = s.rspFrame := by
  unfold State.sampleInputs; split <;> rfl
@[simp] theorem sampleInputs_rspVal : s.sampleInputs.rspVal = s.rspVal := by
  unfold State.sampleInputs; split <;> rfl
@[simp] theorem sampleInputs_rspPe : s.sampleInputs.rspPe = s.rspPe := by
  unfold State.sampleInputs; split <;> rfl
@[simp] theorem sampleInputs_rspEf : s.sampleInputs.rspEf = s.rspEf := by
  unfold State.sampleInputs; split <;> rfl
@[simp] theorem sampleInputs_rspErr : s.sampleInputs.rspErr = s.rspErr := by
  unfold State.sampleInputs; split <;> rfl
@[simp] theorem sampleInputs_frameSet : s.sampleInputs.frameSet = s.frameSet := by
  unfold State.sampleInputs; split <;> rfl
@[simp] theorem sampleInputs_valSet : s.sampleInputs.valSet = s.valSet := by
  unfold State.sampleInputs; split <;> rfl
@[simp] theorem sampleInputs_peSet : s.sampleInputs.peSet = s.peSet := by
  unfold State.sampleInputs; split <;> rfl
@[simp] theorem sampleInputs_efSet : s.sampleInputs.efSet = s.efSet := by
  unfold State.sampleInputs; split <;> rfl
@[simp] theorem sampleInputs_errSet : s.sampleInputs.errSet = s.errSet := by
  unfold State.sampleInputs; split <;> rfl
@[simp] theorem sampleInputs_rspValid : s.sampleInputs.rspValid = false := by
  unfold State.sampleInputs; split <;> rfl
@[simp] theorem sampleInputs_xferReq : s.sampleInputs.xferReq = s.xferReq := by
  unfold State.sampleInputs; split <;> rfl
@[simp] theorem sampleInputs_program : s.sampleInputs.program = s.program := by
  unfold State.sampleInputs; split <;> rfl
@[simp] theorem sampleInputs_noValueRead : s.sampleInputs.noValueRead = s.noValueRead := by
  unfold State.sampleInputs; split <;> rfl
@[simp] theorem sampleInputs_stimulus : s.sampleInputs.stimulus = s.stimulus.tail := by
  unfold State.sampleInputs; split <;> simp [*]

/-- Sampling adds at most one foreign event to the record. -/
theorem sampleInputs_busLog :
    s.sampleInputs.busLog = s.busLog ∨ s.sampleInputs.busLog = s.busLog ++ [.foreign s.busOwn] := by
  unfold State.sampleInputs recordForeign
  split
  · exact .inl rfl
  · next e _ _ => cases e.foreign <;> simp

/-- What a reset adds to the record: nothing in IDLE, else the exchange in flight, ended or abandoned, and the cut. -/
theorem recordReset_cases :
    s.recordReset = s.busLog ∨
    (∃ tx, s.xferTx = some tx ∧
      s.recordReset = s.busLog ++ [.exchange s.csId tx s.xferRx, .cut s.tx1]) ∨
    (∃ tx, s.xferTx = some tx ∧ s.recordReset = s.busLog ++ [.abandoned s.csId tx, .cut s.tx1]) := by
  unfold State.recordReset State.xferCs
  split
  · exact .inl rfl
  · next tx htx =>
    cases s.xferAck
    · exact .inr (.inr ⟨tx, htx, by simp⟩)
    · exact .inr (.inl ⟨tx, htx, by simp⟩)

/-- The position and word of the exchange in progress, by SEQ. -/
theorem frameOnBus_eq_none_iff : s.frameOnBus = none ↔ s.seq = .idle := by
  cases h : s.seq <;> simp [State.frameOnBus, h]

/-- After an acknowledged exchange the next word is the sensor's unless something intruded on that exchange. -/
@[simp] theorem adjacent_exchange (log : List BusEvent) (cs : BitVec Config.csIdWidth) (tx rx : Frame) :
    adjacent (log ++ [.exchange cs tx rx]) = !intruded log := by
  simp [adjacent]

/-- Nothing intruded on an exchange whose record before it does not end in other traffic under BUS_OWN. -/
theorem intruded_eq_false_iff (log : List BusEvent) :
    intruded log = false ↔ log.getLast? ≠ some (.foreign true) := by
  unfold intruded
  split <;> simp [*]

/-- The possible histories of a record in two parts are those of the first followed by those of the second. -/
theorem possibleHistory_append {log log' : List BusEvent} {sent : List Frame} :
    PossibleHistory (log ++ log') sent ↔
      ∃ earlier later, PossibleHistory log earlier ∧ PossibleHistory log' later ∧ sent = earlier ++ later := by
  induction log generalizing sent with
  | nil => simp [PossibleHistory]
  | cons e log ih =>
    simp only [List.cons_append, PossibleHistory, ih]
    constructor
    · rintro ⟨ws, _, hw, ⟨earlier, later, he, hl, rfl⟩, rfl⟩
      exact ⟨ws ++ earlier, later, ⟨ws, earlier, hw, he, rfl⟩, hl, by simp⟩
    · rintro ⟨_, later, ⟨ws, earlier, hw, he, rfl⟩, hl, rfl⟩
      exact ⟨ws, earlier ++ later, hw, ⟨earlier, later, he, hl, rfl⟩, by simp⟩

/-- After an acknowledged exchange a possible history is a possible history before it, and the word sent. -/
theorem possibleHistory_exchange {log : List BusEvent} {cs : BitVec Config.csIdWidth} {tx rx : Frame}
    {sent : List Frame} :
    PossibleHistory (log ++ [.exchange cs tx rx]) sent ↔
      ∃ earlier, PossibleHistory log earlier ∧ sent = earlier ++ [tx] := by
  simp [possibleHistory_append, PossibleHistory, BusEvent.adds]

/-- A reset in a read leaves the sensor's history as it was, with or without the word that was in flight (R167). -/
theorem possibleHistory_abandonedRead {log : List BusEvent} {cs : BitVec Config.csIdWidth} {tx command : Frame}
    {sent : List Frame} (hc : frameBit14 command = true) :
    PossibleHistory (log ++ [.abandoned cs tx, .cut command]) sent ↔
      ∃ earlier, PossibleHistory log earlier ∧ (sent = earlier ∨ sent = earlier ++ [tx]) := by
  simp only [possibleHistory_append, PossibleHistory, BusEvent.adds, hc, true_implies]
  constructor
  · rintro ⟨earlier, _, he, ⟨ws, _, hw, ⟨_, _, rfl, rfl, rfl⟩, rfl⟩, rfl⟩
    rcases hw with rfl | rfl
    · exact ⟨earlier, he, .inl (by simp)⟩
    · exact ⟨earlier, he, .inr (by simp)⟩
  · rintro ⟨earlier, he, rfl | rfl⟩
    · exact ⟨_, [], he, ⟨[], [], .inl rfl, ⟨[], [], rfl, rfl, rfl⟩, rfl⟩, by simp⟩
    · exact ⟨earlier, [tx], he, ⟨[tx], [], .inr rfl, ⟨[], [], rfl, rfl, rfl⟩, rfl⟩, rfl⟩

end Sys2Proof.Machine
end

