-- ==== Sys2Proof/Laws/PerInstr.lean ====
section
/-! SUPPORT. The family TableRow: each instruction's encoding matches its row of spec/opcode_table.json (match and
mask), and a pseudo-operation has no encoding (30_encoding.md R77). -/

namespace Sys2Proof.Laws

/-- The (match, mask) of the instruction's row in spec/opcode_table.json; null for a pseudo-operation. -/
def rowMatchMask : Instr → Option (Nat × Nat)
  | .parGen _ => some (0x0, 0xf)
  | .parChk _ => some (0x1, 0xf)
  | .cmdEnc _ _ => some (0x2, 0xf)
  | .datEnc _ => some (0x3, 0xf)
  | .frmDec _ => some (0x4, 0xf)
  | .fldGet _ _ => some (0x5, 0xf)
  | .fldSet _ _ _ => some (0x6, 0xf)
  | .angScl _ => some (0x7, 0xf)
  | .rdReg _ => some (0x8, 0xf)
  | .wrReg _ _ => some (0x9, 0xf)
  | .reservedA => some (0xa, 0xf)
  | .reservedB => some (0xb, 0xf)
  | .reservedC => some (0xc, 0xf)
  | .reservedD => some (0xd, 0xf)
  | .reservedE => some (0xe, 0xf)
  | .reservedF => some (0xf, 0xf)
  | .wireReadCmd _ _ => some (0x4000, 0x4000)
  | .wireWriteCmd _ _ => some (0x0, 0x4000)
  | .wireNop => some (0x4000, 0xffff)
  | .wireData _ _ _ => some (0x0, 0x0)
  | .readAngle => none
  | .writeZpos _ _ => none
  | .writeSettings1 _ => none
  | .writeSettings2 _ => none
  | .readRegister _ => none
  | .writeRegister _ _ => none

/-- The word of `c` has the bits `m` under the mask `k`. -/
def codeMatches (m k : Nat) : Code → Prop
  | .request w => w &&& BitVec.ofNat 46 k = BitVec.ofNat 46 m
  | .readFirst w => w &&& BitVec.ofNat 16 k = BitVec.ofNat 16 m
  | .readSecond w => w &&& BitVec.ofNat 16 k = BitVec.ofNat 16 m
  | .writeFirst w => w &&& BitVec.ofNat 16 k = BitVec.ofNat 16 m
  | .writeSecond w => w &&& BitVec.ofNat 16 k = BitVec.ofNat 16 m

/-- The encoding of `i` has its row's fixed bits. -/
def TableRow.Statement (i : Instr) : Prop :=
  match rowMatchMask i with
  | none => encode i = none
  | some (m, k) => ∃ c, encode i = some c ∧ codeMatches m k c

/-- A request word's low four bits are its OP. -/
theorem requestWord_low4 (op : BitVec 4) (a b : Frame) (c : BitVec 10) :
    requestWord op a b c &&& BitVec.ofNat 46 0xf = op.setWidth 46 := by
  have h := congrArg BitVec.toNat (requestOp_requestWord op a b c)
  apply BitVec.eq_of_toNat_eq
  have h15 := Nat.and_two_pow_sub_one_eq_mod (requestWord op a b c).toNat 4
  simp only [requestOp, BitVec.extractLsb'_toNat, Nat.shiftRight_zero] at h
  simp only [BitVec.toNat_and, BitVec.toNat_ofNat, BitVec.toNat_setWidth]
  have hop := op.isLt
  norm_num at h15 ⊢
  omega

/-- Bit 14 of a packed frame, as the mask 0x4000 reads it. -/
theorem packFrame_bit14 (b15 b14 : Bool) (low : Field14) :
    packFrame b15 b14 low &&& BitVec.ofNat 16 0x4000 =
      (BitVec.ofBool b14).setWidth 16 <<< 14 := by
  ext i hi
  have h := frameBit14_packFrame b15 b14 low
  simp only [frameBit14] at h
  rcases (by omega : i < 14 ∨ i = 14 ∨ i = 15) with h' | rfl | rfl
  · have : (BitVec.ofNat 16 0x4000)[i] = false := by interval_cases i <;> simp
    simp [this, h']
  · simpa using h
  · simp

theorem TableRow.parGen (a : Frame) : TableRow.Statement (.parGen a) :=
  ⟨_, rfl, requestWord_low4 _ _ _ _⟩

theorem TableRow.parChk (a : Frame) : TableRow.Statement (.parChk a) :=
  ⟨_, rfl, requestWord_low4 _ _ _ _⟩

theorem TableRow.cmdEnc (addr : Field14) (rw : Bool) : TableRow.Statement (.cmdEnc addr rw) :=
  ⟨_, rfl, requestWord_low4 _ _ _ _⟩

theorem TableRow.datEnc (data : Field14) : TableRow.Statement (.datEnc data) :=
  ⟨_, rfl, requestWord_low4 _ _ _ _⟩

theorem TableRow.frmDec (a : Frame) : TableRow.Statement (.frmDec a) :=
  ⟨_, rfl, requestWord_low4 _ _ _ _⟩

theorem TableRow.fldGet (a : Frame) (d : FieldDesc) : TableRow.Statement (.fldGet a d) :=
  ⟨_, rfl, requestWord_low4 _ _ _ _⟩

theorem TableRow.fldSet (a b : Frame) (d : FieldDesc) : TableRow.Statement (.fldSet a b d) :=
  ⟨_, rfl, requestWord_low4 _ _ _ _⟩

theorem TableRow.angScl (raw : Field14) : TableRow.Statement (.angScl raw) :=
  ⟨_, rfl, requestWord_low4 _ _ _ _⟩

theorem TableRow.rdReg (addr : Field14) : TableRow.Statement (.rdReg addr) :=
  ⟨_, rfl, requestWord_low4 _ _ _ _⟩

theorem TableRow.wrReg (addr data : Field14) : TableRow.Statement (.wrReg addr data) :=
  ⟨_, rfl, requestWord_low4 _ _ _ _⟩

theorem TableRow.reservedA : TableRow.Statement (.reservedA) :=
  ⟨_, rfl, requestWord_low4 _ _ _ _⟩

theorem TableRow.reservedB : TableRow.Statement (.reservedB) :=
  ⟨_, rfl, requestWord_low4 _ _ _ _⟩

theorem TableRow.reservedC : TableRow.Statement (.reservedC) :=
  ⟨_, rfl, requestWord_low4 _ _ _ _⟩

theorem TableRow.reservedD : TableRow.Statement (.reservedD) :=
  ⟨_, rfl, requestWord_low4 _ _ _ _⟩

theorem TableRow.reservedE : TableRow.Statement (.reservedE) :=
  ⟨_, rfl, requestWord_low4 _ _ _ _⟩

theorem TableRow.reservedF : TableRow.Statement (.reservedF) :=
  ⟨_, rfl, requestWord_low4 _ _ _ _⟩

theorem TableRow.wireReadCmd (addr : Field14) (parc : Bool) : TableRow.Statement (.wireReadCmd addr parc) :=
  ⟨_, rfl, packFrame_bit14 parc true addr⟩

theorem TableRow.wireWriteCmd (addr : Field14) (parc : Bool) : TableRow.Statement (.wireWriteCmd addr parc) :=
  ⟨_, rfl, packFrame_bit14 parc false addr⟩

theorem TableRow.wireNop : TableRow.Statement .wireNop := ⟨_, rfl, rfl⟩

theorem TableRow.wireData (data : Field14) (ef pard : Bool) : TableRow.Statement (.wireData data ef pard) :=
  ⟨_, rfl, BitVec.and_zero⟩

theorem TableRow.readAngle : TableRow.Statement (.readAngle) := rfl

theorem TableRow.writeZpos (m l : Frame) : TableRow.Statement (.writeZpos m l) := rfl

theorem TableRow.writeSettings1 (v : Frame) : TableRow.Statement (.writeSettings1 v) := rfl

theorem TableRow.writeSettings2 (v : Frame) : TableRow.Statement (.writeSettings2 v) := rfl

theorem TableRow.readRegister (addr : Frame) : TableRow.Statement (.readRegister addr) := rfl

theorem TableRow.writeRegister (addr v : Frame) : TableRow.Statement (.writeRegister addr v) := rfl

end Sys2Proof.Laws
end

