-- ==== Sys2Proof/Laws/Run.lean ====
section
/-! SUPPORT. What a requester's line does in a step, and how runs compose. -/

namespace Sys2Proof.Machine

/-- All the reading of an operand can do: the bits copied, and whether its register holds no value. -/
theorem operand_reading_eq (s : State) (o : Operand) : o.reading s = ⟨s.copied o, !s.readable o⟩ := by
  cases o with
  | lit v => rfl
  | rspFrame => rfl
  | rspVal =>
    have hv : s.rspVal.extractLsb' 0 16 = BitVec.ofNat 16 (s.rspVal.toNat % 65536) :=
      BitVec.eq_of_toNat_eq (by simp)
    simp [Operand.reading, State.readable, State.copied, State.readRspVal, hv]

/-- An operand's bits are the bits copied. -/
@[simp] theorem operand_value_eq (s : State) (o : Operand) : o.value s = s.copied o := by
  rw [Operand.value, operand_reading_eq]

/-- A line copies a register that holds no value exactly when one of its operands cannot be read. -/
theorem copiesNoValue_eq (s : State) (line : Line) :
    line.copiesNoValue s = line.operands.any fun o => !s.readable o := by
  simp only [Line.copiesNoValue, operand_reading_eq]

/-- Sampling the inputs changes no operand's bits. -/
@[simp] theorem copied_sampleInputs (s : State) (o : Operand) : s.sampleInputs.copied o = s.copied o := by
  cases o <;> simp [State.copied]

/-- Sampling the inputs changes no operand's readability. -/
@[simp] theorem readable_sampleInputs (s : State) (o : Operand) : s.sampleInputs.readable o = s.readable o := by
  cases o <;> simp [State.readable]

/-- A step in IDLE with a line presented: its instruction, the line gone and a copy of no value flagged. -/
theorem step_line {s : State} {line : Line} {rest : List Line} (hs : s.seq = .idle)
    (hr : s.sampleInputs.resetIn = false) (hp : s.program = line :: rest) :
    step s = exec (line.issue s.sampleInputs) { s.sampleInputs with
      program := rest
      noValueRead := s.noValueRead || line.operands.any fun o => !s.readable o } := by
  simp [step, hr, State.fetch, (frameOnBus_eq_none_iff _).mpr ((sampleInputs_seq s).trans hs),
    State.fetchLine, hp, copiesNoValue_eq]

/-- `j + k` steps are `j` steps and then `k`. -/
theorem runSteps_add (j k : Nat) (s : State) :
    runSteps (j + k) s =
      match runSteps j s with
      | .next t => runSteps k t
      | .fault f => .fault f
      | .refused r => .refused r := by
  induction j generalizing s with
  | zero => simp [runSteps]
  | succ j ih =>
    rw [Nat.add_right_comm]
    simp only [runSteps]
    cases step s with
    | next t => exact ih t
    | fault f => rfl
    | refused r => rfl

end Sys2Proof.Machine
end

