-- ==== Sys2Proof/Tests/Slice0.lean ====
section
/-! SUPPORT. Tests of the model against the spec's own words: decoding (30_encoding.md, 95_test_vectors.md), the checks
of WellFormed, one step for each instruction (95_test_vectors.md sections 3 and 4), and for each statement with
hypotheses a state and operands that meet them. -/

namespace Sys2Proof.Tests

open Sys2Proof.Machine

/-! ## Decoding: words written out from the layouts of R64, R66 and R69 -/

/-- OP 0, A = 0x7FFE (95_test_vectors.md 3.1). -/
theorem test_decode_par_gen : decodeTableWord 48 0x7FFE0 = some (.parGen 0x7FFE) := by decide
/-- OP 1, A = 0xFFFE (3.1). -/
theorem test_decode_par_chk : decodeTableWord 48 0xFFFE1 = some (.parChk 0xFFFE) := by decide
/-- OP 2, A = 0x7FFE, B = 1: address bit 14 dropped (3.2). -/
theorem test_decode_cmd_enc_drops_bit14 : decodeTableWord 48 0x17FFE2 = some (.cmdEnc 0x3FFE true) := by decide
/-- OP 2, A = 0x3FFE, B = 2: only B[0] is read (3.2). -/
theorem test_decode_cmd_enc_low_bit : decodeTableWord 48 0x23FFE2 = some (.cmdEnc 0x3FFE false) := by decide
/-- OP 3, A = 0xFFFF by R69: 0xFFFF << 4 | 3, truncated to 0x3FFF (3.3). -/
theorem test_decode_dat_enc : decodeTableWord 48 0xFFFF3 = some (.datEnc 0x3FFF) := by decide
/-- OP 4, A = 0x2000 by R69. -/
theorem test_decode_frm_dec : decodeTableWord 48 0x20004 = some (.frmDec 0x2000) := by decide
/-- FLD_GET.8 with 6:1 (3.5). -/
theorem test_decode_fld_get :
    decodeTableWord 48 0x216000000A55 = some (.fldGet 0x00A5 ⟨6, 1, true⟩) := by decide
/-- FLD_SET with 14:1 (3.5). -/
theorem test_decode_fld_set :
    decodeTableWord 48 0x1E00013FFE6 = some (.fldSet 0x3FFE 0x0001 ⟨14, 1, false⟩) := by decide
/-- ANG_SCL 0xC000: bits 15:14 ignored (3.6). -/
theorem test_decode_ang_scl : decodeTableWord 48 0xC0007 = some (.angScl 0) := by decide
/-- RD_REG 0xFFFE reads ANGLE (3.7). -/
theorem test_decode_rd_reg : decodeTableWord 48 0xFFFE8 = some (.rdReg 0x3FFE) := by decide
/-- WR_REG SETTINGS1, 0x05 (3.7). -/
theorem test_decode_wr_reg : decodeTableWord 48 0x500189 = some (.wrReg 0x0018 0x0005) := by decide
/-- Every bit above OP set, OP 0xA to 0xF (3.8). -/
theorem test_decode_reserved :
    [0x3FFFFFFFFFFA, 0x3FFFFFFFFFFB, 0x3FFFFFFFFFFC, 0x3FFFFFFFFFFD, 0x3FFFFFFFFFFE, 0x3FFFFFFFFFFF].map
        (decodeTableWord 48) =
      [some .reservedA, some .reservedB, some .reservedC, some .reservedD, some .reservedE, some .reservedF] := by
  decide
/-- A row's OP alone, its operands zero. -/
theorem test_decode_op_only :
    [8, 9, 0xA].map (decodeTableWord 8) = [some (.rdReg 0), some (.wrReg 0 0), some .reservedA] := by decide
/-- ANGLE read frame (R75). -/
theorem test_decode_wire_read : decodeTableWord 16 0xFFFE = some (.wireReadCmd 0x3FFE true) := by decide
/-- SETTINGS1 write frame (R75). -/
theorem test_decode_wire_write : decodeTableWord 16 0x8018 = some (.wireWriteCmd 0x0018 true) := by decide
/-- The NOP frame (R67). -/
theorem test_decode_wire_nop : decodeTableWord 16 0x4000 = some .wireNop := by decide
/-- The data frame of 0xC5 at its position (42_frame_codec.md R102). -/
theorem test_decode_wire_data : decode (.writeSecond 0x80C5) = .ok (.wireData 0x00C5 false true) := by decide
/-- A number wider than its row is refused by name. -/
theorem test_decode_too_wide :
    decodeNumber 48 0x400000000000 = .error .tooWide ∧ decodeNumber 16 0x10000 = .error .tooWide := by decide
/-- A word that cannot stand at its position is refused by name (R113). -/
theorem test_decode_position :
    decode (.readFirst 0x3FFE) = .error .notReadCommand ∧ decode (.writeFirst 0xFFFE) = .error .notWriteCommand ∧
      decode (.readSecond 0xC001) = .error .notNop := by decide
/-- The words of encode, as the spec prints them (R78; 3.5; section 4, L3). -/
theorem test_encode_words :
    encode (.rdReg 0x3FFE) = some (.request 0x3FFE8) ∧ encode (.cmdEnc 0x3FFE true) = some (.request 0x13FFE2) ∧
      encode (.fldSet 0xFF12 0x0025 ⟨0, 6, true⟩) = some (.request 0x2600025FF126) ∧
      encode (.wrReg 0x0016 0x00AB) = some (.request 0xAB00169) ∧
      encode (.wireReadCmd 0x0001 true) = some (.readFirst 0xC001) := by decide
/-- The C values of the named descriptors (40_bitfield_codec.md R92). -/
theorem test_named_descriptors :
    [NamedField.cmdAddr, .cmdRw, .cmdParc, .zposmZposm, .zposlZposl, .zposlFlag6, .zposlFlag7].map
        (fun f => cOfDesc f.desc) = [0x0E0, 0x01E, 0x01F, 0x280, 0x260, 0x216, 0x217] := by decide

/-- A name of a well-formed REG_LAYOUTS entry stands for its row (R89); a register listed twice, for none (log entry 25). -/
theorem test_layout_descriptor :
    layoutDesc [⟨.zposl, 8, [⟨"ZPOSL", 0, 6, false⟩, ⟨"FLAGS", 6, 2, false⟩]⟩] .zposl "FLAGS" = some ⟨6, 2, true⟩ ∧
      layoutDesc [⟨.mag, 8, [⟨"M", 0, 8, false⟩]⟩, ⟨.mag, 8, [⟨"M", 0, 8, false⟩]⟩] .mag "M" = none := by decide

/-! ## WellFormed: an ill-formed term for each check -/

/-- A read command whose bit 15 is not P is not well formed; the right one is. -/
theorem test_wf_read_parity :
    (Instr.wireReadCmd 0x3FFE false).wellFormed = false ∧ (Instr.wireReadCmd 0x3FFE true).wellFormed = true := by
  decide
/-- A write command whose bit 15 is not P is not well formed. -/
theorem test_wf_write_parity : (Instr.wireWriteCmd 0x0018 false).wellFormed = false := by decide
/-- A sent data frame has EF = 0 (R102). -/
theorem test_wf_data_error_flag : (Instr.wireData 0x0005 true false).wellFormed = false := by decide
/-- A sent data frame's bit 15 is P. -/
theorem test_wf_data_parity :
    (Instr.wireData 0x0005 false false).wellFormed = false ∧ (Instr.wireData 0x0005 false true).wellFormed = true := by
  decide
/-- A layout that passes every check of R90. -/
def goodLayout : RegLayout := ⟨.zposl, 8, [⟨"ZPOSL", 0, 6, false⟩, ⟨"FLAG6", 6, 1, false⟩, ⟨"FLAG7", 7, 1, false⟩]⟩
/-- The good layout is well formed. -/
theorem test_wf_layout : goodLayout.wellFormed = true := by decide
/-- A width other than 8 or 16. -/
theorem test_wf_layout_width : RegLayout.wellFormed ⟨.mag, 12, [⟨"F", 0, 12, false⟩]⟩ = false := by decide
/-- Overlapping fields. -/
theorem test_wf_layout_overlap :
    RegLayout.wellFormed ⟨.zposl, 8, [⟨"F", 0, 5, false⟩, ⟨"G", 4, 3, false⟩]⟩ = false := by decide
/-- Widths that do not sum to the register's. -/
theorem test_wf_layout_sum : RegLayout.wellFormed ⟨.zposl, 8, [⟨"F", 0, 6, false⟩]⟩ = false := by decide
/-- A field of no bits. -/
theorem test_wf_layout_empty_field :
    RegLayout.wellFormed ⟨.zposl, 8, [⟨"F", 0, 8, false⟩, ⟨"G", 8, 0, false⟩]⟩ = false := by decide
/-- A named field wider than 14 bits; as a filler it may be. -/
theorem test_wf_layout_wide_field :
    RegLayout.wellFormed ⟨.mag, 16, [⟨"F", 0, 16, false⟩]⟩ = false ∧
      RegLayout.wellFormed ⟨.mag, 16, [⟨"F", 0, 16, true⟩]⟩ = true := by decide
/-- A field outside the register. -/
theorem test_wf_layout_bounds : RegLayout.wellFormed ⟨.zposl, 8, [⟨"F", 1, 8, false⟩]⟩ = false := by decide

/-! ## One step of each instruction -/

/-- What the tests look at in a state. -/
structure View where
  frame : Frame
  val : Value
  pe : Bool
  ef : Bool
  err : BitVec 2
  seq : Seq
  busOwn : Bool
  valid : Bool
deriving DecidableEq, Repr

/-- The result registers, SEQ, BUS_OWN and rsp_valid of a next state. -/
def view : Host.Outcome State Fault Refusal → Option View
  | .next s => some ⟨s.rspFrame, s.rspVal, s.rspPe, s.rspEf, s.rspErr, s.seq, s.busOwn, s.rspValid⟩
  | .fault _ => none
  | .refused _ => none

/-- What a next state puts on the bus: TX1, TX2 and the words sent so far. -/
def sent : Host.Outcome State Fault Refusal → Option (Frame × Frame × List Frame)
  | .next s => some (s.tx1, s.tx2, sentWords s.busLog)
  | .fault _ => none
  | .refused _ => none

/-- The requester's lines of a next state. -/
def linesOf : Host.Outcome State Fault Refusal → Option (List Line)
  | .next s => some s.program
  | .fault _ => none
  | .refused _ => none

/-- Whether a next state's step completed an operation, and whether the error of R34 is flagged. -/
def flagOf : Host.Outcome State Fault Refusal → Option (Bool × Bool)
  | .next s => some (s.rspValid, s.noValueRead)
  | .fault _ => none
  | .refused _ => none

/-- The bus record of a next state. -/
def recordOf : Host.Outcome State Fault Refusal → Option (List BusEvent)
  | .next s => some s.busLog
  | .fault _ => none
  | .refused _ => none

/-- Reset with 0 for the uninterpreted bits of the result registers, so that a test can be evaluated. -/
def zeroed : State := { State.reset with rspFrame := 0, rspVal := 0, rspPe := false, rspEf := false, rspErr := 0 }

/-- `zeroed` with the given lines and environment. -/
def ready (lines : List Line) (env : List EnvStep) : State := { zeroed with program := lines, stimulus := env }

/-- A transaction in progress at `q` with its latches, the environment still to come. -/
def during (q : Seq) (t1 t2 : Frame) (env : List EnvStep) : State :=
  { zeroed with seq := q, busOwn := true, xferReq := true, tx1 := t1, tx2 := t2, stimulus := env }

/-- PAR_GEN 0xAAAA (3.1). -/
theorem test_par_gen :
    view (exec (.parGen 0xAAAA) zeroed) = some ⟨0x2AAA, 0, false, false, 0, .idle, false, true⟩ := by decide
/-- PAR_GEN 0 (3.1). -/
theorem test_par_gen_zero :
    view (exec (.parGen 0) zeroed) = some ⟨0x8000, 1, false, false, 0, .idle, false, true⟩ := by decide
/-- PAR_CHK 0x5555 (3.1). -/
theorem test_par_chk :
    view (exec (.parChk 0x5555) zeroed) = some ⟨0, 1, true, false, 0, .idle, false, true⟩ := by decide
/-- CMD_ENC 0x1234, READ (3.2). -/
theorem test_cmd_enc :
    view (exec (.cmdEnc 0x1234 true) zeroed) = some ⟨0xD234, 0, false, false, 0, .idle, false, true⟩ := by decide
/-- DAT_ENC 0x3FFF (3.3). -/
theorem test_dat_enc :
    view (exec (.datEnc 0x3FFF) zeroed) = some ⟨0xBFFF, 0, false, false, 0, .idle, false, true⟩ := by decide
/-- FRM_DEC 0x6000 (3.4). -/
theorem test_frm_dec :
    view (exec (.frmDec 0x6000) zeroed) = some ⟨0x6000, 0x2000, true, true, 0, .idle, false, true⟩ := by decide
/-- FRM_DEC 0xC001: error flag without parity fault (3.4). -/
theorem test_frm_dec_error_flag :
    view (exec (.frmDec 0xC001) zeroed) = some ⟨0xC001, 1, false, true, 0, .idle, false, true⟩ := by decide
/-- FLD_GET.8 0xABCD, 4:4 (3.5). -/
theorem test_fld_get :
    view (exec (.fldGet 0xABCD ⟨4, 4, true⟩) zeroed) = some ⟨0, 0xC, false, false, 0, .idle, false, true⟩ := by decide
/-- FLD_GET 0x1234, 15:2 is illegal (3.5). -/
theorem test_fld_get_illegal :
    view (exec (.fldGet 0x1234 ⟨15, 2, false⟩) zeroed) = some ⟨0, 0, false, false, 2, .idle, false, true⟩ := by decide
/-- FLD_SET 0xABCD, 3, 14:2 (3.5). -/
theorem test_fld_set :
    view (exec (.fldSet 0xABCD 3 ⟨14, 2, false⟩) zeroed) = some ⟨0xEBCD, 0, false, false, 0, .idle, false, true⟩ := by
  decide
/-- FLD_SET.8 0xFF12, 0x25, 0:6 (3.5). -/
theorem test_fld_set_byte :
    view (exec (.fldSet 0xFF12 0x25 ⟨0, 6, true⟩) zeroed) = some ⟨0x25, 0, false, false, 0, .idle, false, true⟩ := by
  decide
/-- ANG_SCL 11378 and the largest, 16383 (3.6). -/
theorem test_ang_scl :
    view (exec (.angScl 11378) zeroed) = some ⟨0, 0x7D00A, false, false, 0, .idle, false, true⟩ ∧
      view (exec (.angScl 16383) zeroed) = some ⟨0, 0xB3FD3, false, false, 0, .idle, false, true⟩ := by decide
/-- RD_REG ANGLE accepted (3.7, step 0). -/
theorem test_rd_reg :
    view (exec (.rdReg 0x3FFE) zeroed) = some ⟨0, 0, false, false, 0, .rd1, true, false⟩ ∧
      sent (exec (.rdReg 0x3FFE) zeroed) = some (0xFFFE, 0x4000, []) := by decide
/-- WR_REG SETTINGS1, 5 accepted (3.7). -/
theorem test_wr_reg :
    view (exec (.wrReg 0x0018 5) zeroed) = some ⟨0, 0, false, false, 0, .wr1, true, false⟩ ∧
      sent (exec (.wrReg 0x0018 5) zeroed) = some (0x8018, 0x8005, []) := by decide
/-- The reserved opcodes (3.8). -/
theorem test_reserved :
    [Instr.reservedA, .reservedB, .reservedC, .reservedD, .reservedE, .reservedF].map (fun i => view (exec i zeroed)) =
      List.replicate 6 (some ⟨0, 0, false, false, 1, .idle, false, true⟩) := by decide
/-- The exchange of the read command (3.7, step 1). -/
theorem test_wire_read_cmd :
    view (step (during .rd1 0xFFFE 0x4000 [ackStep 0])) = some ⟨0, 0, false, false, 0, .rd2, true, false⟩ := by decide
/-- The exchange of the NOP frame (3.7, step 2). -/
theorem test_wire_nop :
    view (step (during .rd2 0xFFFE 0x4000 [ackStep 0x2000])) =
        some ⟨0x2000, 0x2000, false, false, 0, .idle, false, true⟩ ∧
      sent (step (during .rd2 0xFFFE 0x4000 [ackStep 0x2000])) = some (0xFFFE, 0x4000, [0x4000]) := by decide
/-- The exchange of the write command (3.7). -/
theorem test_wire_write_cmd :
    view (step (during .wr1 0x8018 0x8005 [ackStep 0xFFFF])) = some ⟨0, 0, false, false, 0, .wr2, true, false⟩ := by
  decide
/-- The exchange of the data frame: only RSP_ERR is written (3.7). -/
theorem test_wire_data :
    view (step (during .wr2 0x8018 0x8005 [ackStep 0xFFFF])) = some ⟨0, 0, false, false, 0, .idle, false, true⟩ ∧
      sent (step (during .wr2 0x8018 0x8005 [ackStep 0xFFFF])) = some (0x8018, 0x8005, [0x8005]) := by decide
/-- READ_ANGLE (R136). -/
theorem test_read_angle :
    linesOf (exec .readAngle zeroed) = some [asmRdReg (.lit 0x3FFE), asmAngScl .rspVal] := by decide
/-- WRITE_ZPOS 0xAB, 0x25 (section 4, L3): the request words of its two lines. -/
theorem test_write_zpos :
    linesOf (exec (.writeZpos 0xAB 0x25) zeroed) =
        some [.asm 9 (.lit 0x16) (.lit 0xAB) 0, .asm 9 (.lit 0x17) (.lit 0x25) 0] ∧
      requestWord 9 0x16 0xAB 0 = 0xAB00169 ∧ requestWord 9 0x17 0x25 0 = 0x2500179 := by decide
/-- WRITE_SETTINGS1 5 and WRITE_SETTINGS2 0x10C (section 4, L6). -/
theorem test_write_settings :
    linesOf (exec (.writeSettings1 5) zeroed) = some [.asm 9 (.lit 0x18) (.lit 5) 0] ∧
      linesOf (exec (.writeSettings2 0x10C) zeroed) = some [.asm 9 (.lit 0x19) (.lit 0x0C) 0] := by decide
/-- READ_REGISTER and WRITE_REGISTER (R143). -/
theorem test_registers :
    linesOf (exec (.readRegister 0xFFFE) zeroed) = some [.asm 8 (.lit 0xFFFE) (.lit 0) 0] ∧
      linesOf (exec (.writeRegister 0x3 0x40) zeroed) = some [.asm 9 (.lit 3) (.lit 0x40) 0] := by decide
/-- A request while busy waits: PAR_GEN is still presented after a step of RD1 without an acknowledgement (3.7). -/
theorem test_busy :
    linesOf (step { during .rd1 0xFFFE 0x4000 [quietStep] with program := [.word 0] }) = some [.word 0] := by decide
/-- A reset in WR1 in the step of its acknowledgement: the second exchange never starts (3.7). -/
theorem test_reset_after_ack :
    (view (step (during .wr1 0x8018 0x8005 [⟨true, false, .ack 0⟩]))).map (fun v => (v.seq, v.busOwn, v.valid)) =
        some (.idle, false, false) ∧
      sent (step (during .wr1 0x8018 0x8005 [⟨true, false, .ack 0⟩])) = some (0, 0, [0x8018]) := by decide
/-- After a reset that cut a write off the next received word is unconstrained (R168). -/
theorem test_cut_write_unconstrained :
    adjacent (State.recordReset (during .wr1 0x8018 0x8005 [ackStep 0]).sampleInputs) = false ∧
      adjacent (State.recordReset (during .wr2 0x8018 0x8005 []).sampleInputs) = false := by decide
/-- Other traffic in RD1, under BUS_OWN, makes the phase-2 word any value (R160; I18), before or in the step of the
acknowledgement; traffic before the read does not. -/
theorem test_intruded_read :
    (∀ env ∈ [[⟨false, true, .none⟩, ackStep 0], [⟨false, true, .ack 0⟩, quietStep]],
      (recordOf (runSteps env.length (during .rd1 0xFFFE 0x4000 env))).map adjacent = some false) ∧
    (recordOf (runSteps 2 (ready [.word 0x3FFE8] [⟨false, true, .none⟩, ackStep 0]))).map adjacent = some true := by
  decide
/-- A line that copies a result register is not presented while the block is busy (R165). -/
theorem test_copying_line_waits :
    { during .rd2 0xFFFE 0x4000 [] with program := [asmAngScl .rspVal], valSet := true }.sampleInputs.reqValid = false := by
  decide
/-- The zero position of WRITE_ZPOS 0xAB, 0x25 (section 4, L3). -/
theorem test_zero_position : zeroPosition 0xAB 0x25 = 0x2AE5 := by decide
/-- IPS answers the read command of ANGLE with its data frame (95_test_vectors.md section 1). -/
theorem test_ideal_sensor :
    (idealSensor fun a => if a = 0x3FFE then 0x2000 else 0).respond [0xFFFE] 0 = 0x2000 := by decide
/-- The interface's placing of a request and of a wire frame: the very next step runs it. -/
theorem test_with_fetch_word :
    (view (step (State.reset.withFetchWord 48 0x20007))).map (fun v => (v.val, v.err, v.seq, v.valid)) =
        some (0x5A000, 0, .idle, true) ∧
      (view (step (State.reset.withFetchWord 16 0xFFFE))).map (fun v => (v.seq, v.busOwn)) = some (.rd2, true) := by
  decide
/-- With no register written, ANG_SCL RSP_VAL runs and completes and the error of R34 is flagged; ANG_SCL 0 flags nothing. -/
theorem test_unwritten_copy_goes_on :
    [asmAngScl .rspVal, asmAngScl (.lit 0)].map (fun p => flagOf (step (ready [p] []))) =
      [some (true, true), some (true, false)] := by decide
/-- The same from reset itself, by a pseudo-operation. -/
theorem test_unwritten_copy_from_reset :
    flagOf (step { State.reset with program := [.writeSettings1 .rspVal] }) = some (false, true) := by decide

/-! ## For each statement with hypotheses, a state and operands that meet them -/

/-- ParGenInsertsParity: an idle state. -/
theorem witness_ParGenInsertsParity : State.reset.seq = .idle := rfl
/-- ParChkFlagsMismatch: an idle state. -/
theorem witness_ParChkFlagsMismatch : State.reset.seq = .idle := rfl
/-- CmdEncBuildsCommandFrame: an idle state. -/
theorem witness_CmdEncBuildsCommandFrame : State.reset.seq = .idle := rfl
/-- DatEncBuildsDataFrame: an idle state. -/
theorem witness_DatEncBuildsDataFrame : State.reset.seq = .idle := rfl
/-- FrmDecDecodesDataFrame: an idle state. -/
theorem witness_FrmDecDecodesDataFrame : State.reset.seq = .idle := rfl
/-- AngSclScalesAngle: an idle state. -/
theorem witness_AngSclScalesAngle : State.reset.seq = .idle := rfl
/-- ReservedOpcodesWriteOnlyStatus: an idle state. -/
theorem witness_ReservedOpcodesWriteOnlyStatus : State.reset.seq = .idle := rfl
/-- RdRegIsAccepted: an idle state. -/
theorem witness_RdRegIsAccepted : State.reset.seq = .idle := rfl
/-- WrRegIsAccepted: an idle state. -/
theorem witness_WrRegIsAccepted : State.reset.seq = .idle := rfl
/-- GeneratedFramesHaveOddParity: an idle state. -/
theorem witness_GeneratedFramesHaveOddParity : State.reset.seq = .idle := rfl
/-- ParityFaultIffEvenPopcount: an idle state. -/
theorem witness_ParityFaultIffEvenPopcount : State.reset.seq = .idle := rfl
/-- CommandFrameFields: an idle state. -/
theorem witness_CommandFrameFields : State.reset.seq = .idle := rfl
/-- DecodeOfEncodedData: an idle state. -/
theorem witness_DecodeOfEncodedData : State.reset.seq = .idle := rfl
/-- FldGetExtractsField: an idle state; a legal descriptor at the edge (2 + 14 = 16) and the illegal one beside it. -/
theorem witness_FldGetExtractsField :
    State.reset.seq = .idle ∧ FieldDesc.legal ⟨2, 14, false⟩ = true ∧ FieldDesc.legal ⟨3, 14, false⟩ = false ∧
      FieldDesc.legal ⟨0, 8, true⟩ = true ∧ FieldDesc.legal ⟨0, 9, true⟩ = false ∧
      FieldDesc.legal ⟨15, 0, false⟩ = false := by decide
/-- FldSetReplacesField: an idle state; a legal descriptor at the edge (2 + 14 = 16) and the illegal one beside it. -/
theorem witness_FldSetReplacesField :
    State.reset.seq = .idle ∧ FieldDesc.legal ⟨2, 14, false⟩ = true ∧ FieldDesc.legal ⟨3, 14, false⟩ = false ∧
      FieldDesc.legal ⟨0, 8, true⟩ = true ∧ FieldDesc.legal ⟨0, 9, true⟩ = false ∧
      FieldDesc.legal ⟨15, 0, false⟩ = false := by decide
/-- AngleScalingIsExact: an idle state, and two angles in order. -/
theorem witness_AngleScalingIsExact : State.reset.seq = .idle ∧ (0 : Field14).toNat < (16383 : Field14).toNat := by decide
/-- AcknowledgedFramesAdvanceTheSequencer: an acknowledged state in each of the four positions. -/
theorem witness_AcknowledgedFramesAdvanceTheSequencer :
    ∀ q ∈ [Seq.rd1, .rd2, .wr1, .wr2],
      ({ during q 0xFFFE 0x4000 [] with xferAck := true } : State).xferAck = true ∧
      ({ during q 0xFFFE 0x4000 [] with xferAck := true } : State).seq = q := by decide
/-- UnacknowledgedFramesAreHeld: an unacknowledged state in each of the four positions. -/
theorem witness_UnacknowledgedFramesAreHeld :
    ∀ q ∈ [Seq.rd1, .rd2, .wr1, .wr2],
      (during q 0xFFFE 0x4000 []).xferAck = false ∧ (during q 0xFFFE 0x4000 []).seq = q := by decide
/-- FramesOutOfPositionAreRefused: IDLE is outside all four positions. -/
theorem witness_FramesOutOfPositionAreRefused :
    State.reset.seq ≠ .rd1 ∧ State.reset.seq ≠ .rd2 ∧ State.reset.seq ≠ .wr1 ∧ State.reset.seq ≠ .wr2 := by decide
/-- RequestWhileBusyIsHeld, first part: a busy state, an operation, and a step from it. -/
theorem witness_RequestWhileBusyIsHeld_busy :
    (during .rd1 0xFFFE 0x4000 []).seq ≠ .idle ∧ isRequest (.parGen 0) = true ∧
      ∃ t, step (during .rd1 0xFFFE 0x4000 []) = .next t := ⟨by decide, rfl, _, rfl⟩
/-- RequestWhileBusyIsHeld, second part: a line presented in IDLE. -/
theorem witness_RequestWhileBusyIsHeld_idle :
    (ready [.word 0x20007] [quietStep]).seq = .idle ∧
      (ready [.word 0x20007] [quietStep]).sampleInputs.resetIn = false ∧
      (ready [.word 0x20007] [quietStep]).program = [.word 0x20007] ∧
      Line.issue (ready [.word 0x20007] [quietStep]).sampleInputs (.word 0x20007) = .angScl 0x2000 := by decide
/-- StepRunsTheDecodedInstruction: a request in IDLE, and a frame at each of the four positions. -/
theorem witness_StepRunsTheDecodedInstruction :
    (ready [.word 0x20007] []).sampleInputs.resetIn = false ∧ (ready [.word 0x20007] []).seq = .idle ∧
      (ready [.word 0x20007] []).program = [.word 0x20007] ∧
      (∀ q ∈ [Seq.rd1, .rd2, .wr1, .wr2], (during q 0xFFFE 0x4000 []).sampleInputs.resetIn = false ∧
        (during q 0xFFFE 0x4000 []).seq = q) ∧
      decode (.readFirst (during .rd1 0xFFFE 0x4000 []).tx1) = .ok (.wireReadCmd 0x3FFE true) ∧
      decode (.readSecond (during .rd2 0xFFFE 0x4000 []).tx2) = .ok .wireNop ∧
      decode (.writeFirst (during .wr1 0x8018 0x8005 []).tx1) = .ok (.wireWriteCmd 0x18 true) ∧
      decode (.writeSecond (during .wr2 0x8018 0x8005 []).tx2) = .ok (.wireData 5 false true) := by decide
/-- DecodeInvertsEncode: well-formed instructions with and without an encoding. -/
theorem witness_DecodeInvertsEncode :
    (Instr.wireData 5 false true).wellFormed = true ∧ encode (.wireData 5 false true) = some (.writeSecond 0x8005) ∧
      Instr.readAngle.wellFormed = true ∧ encode .readAngle = none := by decide
/-- EncodeInvertsDecode: a word at each position. -/
theorem witness_EncodeInvertsDecode :
    decode (.readFirst 0xFFFE) = .ok (.wireReadCmd 0x3FFE true) ∧ decode (.readSecond 0x4000) = .ok .wireNop ∧
      decode (.writeFirst 0x8018) = .ok (.wireWriteCmd 0x18 true) ∧
      decode (.writeSecond 0x8005) = .ok (.wireData 5 false true) := by decide
/-- OddBitErrorsAreDetected: 0xFFFE passes; one bit and two bits to change. -/
theorem witness_OddBitErrorsAreDetected :
    zeroed.seq = .idle ∧ (∃ t, exec (.parChk 0xFFFE) zeroed = .next t ∧ t.rspPe = false) ∧
      popcount (0x8000 : Frame) % 2 = 1 ∧ popcount (0x8001 : Frame) % 2 = 0 :=
  ⟨rfl, ⟨_, rfl, by decide⟩, by decide, by decide⟩

/-- FieldGetOfSetIsValueModWidth: an idle state and legal descriptors at both edges, of both backing widths. -/
theorem witness_FieldGetOfSetIsValueModWidth :
    State.reset.seq = .idle ∧
      ∀ d ∈ [(⟨0, 16, false⟩ : FieldDesc), ⟨15, 1, false⟩, ⟨0, 1, false⟩, ⟨0, 8, true⟩, ⟨7, 1, true⟩],
        1 ≤ d.wid.toNat ∧ d.off.toNat + d.wid.toNat ≤ (if d.bw then 8 else 16) := by decide
/-- FieldSetPreservesOtherBits: an idle state and legal descriptors at both edges, of both backing widths. -/
theorem witness_FieldSetPreservesOtherBits :
    State.reset.seq = .idle ∧
      ∀ d ∈ [(⟨0, 16, false⟩ : FieldDesc), ⟨15, 1, false⟩, ⟨0, 1, false⟩, ⟨0, 8, true⟩, ⟨7, 1, true⟩],
        1 ≤ d.wid.toNat ∧ d.off.toNat + d.wid.toNat ≤ (if d.bw then 8 else 16) := by decide
/-- FieldSetOfGetIsIdentity: an idle state and legal descriptors at both edges, of both backing widths. -/
theorem witness_FieldSetOfGetIsIdentity :
    State.reset.seq = .idle ∧
      ∀ d ∈ [(⟨0, 16, false⟩ : FieldDesc), ⟨15, 1, false⟩, ⟨0, 1, false⟩, ⟨0, 8, true⟩, ⟨7, 1, true⟩],
        1 ≤ d.wid.toNat ∧ d.off.toNat + d.wid.toNat ≤ (if d.bw then 8 else 16) := by decide
/-- ByteBackingReadsLowByteOnly: an idle state and byte descriptors at both edges. -/
theorem witness_ByteBackingReadsLowByteOnly :
    State.reset.seq = .idle ∧ ∀ d ∈ [(⟨0, 8, true⟩ : FieldDesc), ⟨7, 1, true⟩],
      d.bw = true ∧ 1 ≤ d.wid.toNat ∧ d.off.toNat + d.wid.toNat ≤ 8 := by decide
/-- ReadTakesTwoExchanges: RD_REG ANGLE presented, one wait before the first acknowledgement and two before the next. -/
theorem witness_ReadTakesTwoExchanges :
    let env := quietStep :: (waits 1 ++ ackStep 0 :: (waits 2 ++ ackStep 0x2000 :: []))
    (ready [.word (requestWord 8 0x3FFE 0 0)] env).seq = .idle ∧
      (ready [.word (requestWord 8 0x3FFE 0 0)] env).program = [.word (requestWord 8 0x3FFE 0 0)] ∧
      (ready [.word (requestWord 8 0x3FFE 0 0)] env).stimulus = env := ⟨rfl, rfl, rfl⟩
/-- WriteTakesTwoExchanges: WR_REG SETTINGS1, 5 presented. -/
theorem witness_WriteTakesTwoExchanges :
    let env := quietStep :: (waits 0 ++ ackStep 0 :: (waits 1 ++ ackStep 0 :: []))
    (ready [.word (requestWord 9 0x18 5 0)] env).seq = .idle ∧
      (ready [.word (requestWord 9 0x18 5 0)] env).program = [.word (requestWord 9 0x18 5 0)] ∧
      (ready [.word (requestWord 9 0x18 5 0)] env).stimulus = env := ⟨rfl, rfl, rfl⟩
/-- OnlyThePhaseTwoWordIsUsed: every SEQ but RD2. -/
theorem witness_OnlyThePhaseTwoWordIsUsed :
    ∀ q ∈ [Seq.idle, .rd1, .wr1, .wr2], (during q 0xFFFE 0x4000 []).seq ≠ .rd2 := by decide
/-- The phase 2 of a read of ANGLE, with the environment `env`, has the invariant. -/
theorem during_rd2_inv (env : List EnvStep) : (during .rd2 0xFFFE 0x4000 env).Inv where
  busOwn_iff := rfl
  xferReq_iff := rfl
  latches := by
    have h : OddFrame 0xFFFE := by unfold OddFrame; decide
    have h' : frameBit14 0xFFFE = true := by decide
    exact ⟨h', h, rfl⟩
  err_ne_three := fun h => by cases h
  written := fun h => by cases h
  valid_idle := fun h => by cases h
  keeps_off_idle := fun h => by cases h
  log := fun _ h => by cases h
/-- A state just after reset, with any lines and environment, has the invariant. -/
theorem ready_inv (lines : List Line) (env : List EnvStep) : (ready lines env).Inv :=
  ⟨rfl, rfl, trivial, fun h => (by cases h), fun h => (by cases h), fun h => (by cases h),
    fun _ => (by simp [ready, zeroed, State.reset]), fun _ h => (by cases h)⟩
/-- ReadResultIsFrmDecOfPhaseTwoWord: a state of RD2 with the invariant and an acknowledgement to come. -/
theorem witness_ReadResultIsFrmDecOfPhaseTwoWord :
    (during .rd2 0xFFFE 0x4000 [ackStep 0x2000]).Inv ∧ (during .rd2 0xFFFE 0x4000 [ackStep 0x2000]).seq = .rd2 ∧
      (during .rd2 0xFFFE 0x4000 [ackStep 0x2000]).stimulus = [ackStep 0x2000] := ⟨during_rd2_inv _, rfl, rfl⟩
/-- ReadReturnsThePipelinedFrame: a pipelined sensor, RD_REG ANGLE presented, one wait in each phase, and a word the
sensor may give after the record of the end of phase 1. -/
theorem witness_ReadReturnsThePipelinedFrame :
    let env := quietStep :: (waits 1 ++ ackStep 0 :: (waits 1 ++ ackStep 0xFFFE :: []))
    echoSensor.Pipelined (fun a _ _ => commandFrame a true) ∧
      (ready [.word (requestWord 8 0x3FFE 0 0)] env).Inv ∧
      (ready [.word (requestWord 8 0x3FFE 0 0)] env).seq = .idle ∧
      (ready [.word (requestWord 8 0x3FFE 0 0)] env).program = [.word (requestWord 8 0x3FFE 0 0)] ∧
      (ready [.word (requestWord 8 0x3FFE 0 0)] env).stimulus = env ∧
      ∃ u, runSteps 3 (ready [.word (requestWord 8 0x3FFE 0 0)] env) = .next u ∧
        adjacent u.busLog = true ∧ echoSensor.mayAnswer u.busLog 0xFFFE :=
  ⟨fun sent a choice => by simp [echoSensor], ready_inv _ _, rfl, rfl, rfl, _, rfl, rfl,
    fun _ => ⟨[0xFFFE], 0, ⟨[0xFFFE], [], rfl, rfl, rfl⟩, by decide⟩⟩
/-- EchoReadReturnsItsOwnCommand: the same with no wait. -/
theorem witness_EchoReadReturnsItsOwnCommand :
    let env := quietStep :: (waits 0 ++ ackStep 0 :: (waits 0 ++ ackStep 0xFFFE :: []))
    (ready [.word (requestWord 8 0x3FFE 0 0)] env).Inv ∧
      (ready [.word (requestWord 8 0x3FFE 0 0)] env).seq = .idle ∧
      (ready [.word (requestWord 8 0x3FFE 0 0)] env).program = [.word (requestWord 8 0x3FFE 0 0)] ∧
      (ready [.word (requestWord 8 0x3FFE 0 0)] env).stimulus = env ∧
      ∃ u, runSteps 2 (ready [.word (requestWord 8 0x3FFE 0 0)] env) = .next u ∧
        adjacent u.busLog = true ∧ echoSensor.mayAnswer u.busLog 0xFFFE :=
  ⟨ready_inv _ _, rfl, rfl, rfl, _, rfl, rfl, fun _ => ⟨[0xFFFE], 0, ⟨[0xFFFE], [], rfl, rfl, rfl⟩, by decide⟩⟩
/-- ReadAngleLeavesDegrees: the line presented, with a wait in phase 2. -/
theorem witness_ReadAngleLeavesDegrees :
    let env := quietStep :: quietStep :: (waits 0 ++ ackStep 0 :: (waits 1 ++ ackStep 0x2000 :: quietStep :: []))
    (ready [.readAngle] env).seq = .idle ∧ (ready [.readAngle] env).program = [.readAngle] ∧
      (ready [.readAngle] env).stimulus = env := ⟨rfl, rfl, rfl⟩
/-- A state whose RSP_FRAME holds 0x1AB. -/
def holding (lines : List Line) (env : List EnvStep) : State := (ready lines env).setRspFrame 0x1AB
/-- WriteZposIsTwoWrites: a copied register, with a value and without, and a literal; one wait before each
acknowledgement. -/
theorem witness_WriteZposIsTwoWrites :
    let env := quietStep :: quietStep :: (waits 1 ++ ackStep 0 :: (waits 1 ++ ackStep 0 ::
      quietStep :: (waits 1 ++ ackStep 0 :: (waits 1 ++ ackStep 0 :: []))))
    ∀ o ∈ [Operand.rspFrame, .rspVal],
      (holding [.writeZpos o (.lit 0x25)] env).seq = .idle ∧
        (holding [.writeZpos o (.lit 0x25)] env).program = [.writeZpos o (.lit 0x25)] ∧
        (holding [.writeZpos o (.lit 0x25)] env).stimulus = env := by decide
/-- SettingsAndRegisterPseudoOpsRun: each of the four lines presented. -/
theorem witness_SettingsAndRegisterPseudoOpsRun :
    let env := quietStep :: quietStep :: (waits 0 ++ ackStep 0 :: (waits 0 ++ ackStep 0 :: []))
    ∀ p ∈ [Line.writeSettings1 (.lit 5), .writeSettings2 (.lit 5), .readRegister .rspFrame,
        .writeRegister .rspVal (.lit 5)],
      (holding [p] env).seq = .idle ∧ (holding [p] env).stimulus = env ∧ (holding [p] env).program = [p] := by decide
/-- EveryStepKeepsInvariant: a state with the invariant and its step. -/
theorem witness_EveryStepKeepsInvariant :
    (during .rd2 0xFFFE 0x4000 [ackStep 0x2000]).Inv ∧
      ∃ t, step (during .rd2 0xFFFE 0x4000 [ackStep 0x2000]) = .next t := ⟨during_rd2_inv _, _, rfl⟩
/-- InvariantStatesAlwaysStep: an idle state with the invariant whose line copies a register without a value, and a
state of RD2. -/
theorem witness_InvariantStatesAlwaysStep :
    (ready [asmParGen .rspFrame] []).Inv ∧ (during .rd2 0xFFFE 0x4000 []).Inv := ⟨ready_inv _ _, during_rd2_inv _⟩
/-- UnwrittenRegisterReadsAreFlagged: a step that raises the flag, one that leaves it down, and one that keeps it up. -/
theorem witness_UnwrittenRegisterReadsAreFlagged :
    (∃ t, step (ready [asmAngScl .rspVal] []) = .next t ∧ t.noValueRead = true) ∧
      (∃ t, step (ready [asmAngScl (.lit 0)] []) = .next t ∧ t.noValueRead = false) ∧
      ∃ t, step { ready [] [⟨true, false, .none⟩] with noValueRead := true } = .next t ∧ t.noValueRead = true :=
  ⟨⟨_, rfl, by decide⟩, ⟨_, rfl, by decide⟩, _, rfl, by decide⟩
/-- AssembledLinesCopyTheirOperands: each line, with operands that hold a value and operands that do not. -/
theorem witness_AssembledLinesCopyTheirOperands :
    ∀ p ∈ [asmWrReg (.lit 3) .rspFrame, asmAngScl .rspVal, asmWrReg .rspFrame .rspVal, Line.readAngle,
        .writeZpos .rspFrame .rspVal, .writeSettings1 .rspFrame, .writeSettings2 .rspVal,
        .readRegister .rspFrame, .writeRegister .rspFrame (.lit 5)],
      (holding [p] []).seq = .idle ∧ (holding [p] []).sampleInputs.resetIn = false ∧
        (holding [p] []).program = [p] := by decide
/-- HandshakeAcceptsAnOperation: a request accepted, one that copies a register accepted, a pseudo-operation expanded, no
line left, and a request held. -/
theorem witness_HandshakeAcceptsAnOperation :
    (∀ s ∈ [ready [.word 0x20007] [], ready [asmParGen .rspFrame] []], s.sampleInputs.resetIn = false ∧
      s.sampleInputs.reqReady = true ∧ s.sampleInputs.reqValid = true) ∧
    (∃ t, step (ready [.word 0x20007] []) = .next t) ∧ (∃ t, step (ready [asmParGen .rspFrame] []) = .next t) ∧
    (∀ s ∈ [ready [.readAngle] [], ready [] []], s.sampleInputs.resetIn = false ∧
      s.sampleInputs.reqReady = true ∧ s.sampleInputs.reqValid = false) ∧
    (∃ t, step (ready [.readAngle] []) = .next t) ∧ (∃ t, step (ready [] []) = .next t) ∧
    (∃ t, step (during .rd1 0xFFFE 0x4000 []) = .next t) ∧
    (during .rd1 0xFFFE 0x4000 []).sampleInputs.reqReady = false :=
  ⟨by decide, ⟨_, rfl⟩, ⟨_, rfl⟩, by decide, ⟨_, rfl⟩, ⟨_, rfl⟩, ⟨_, rfl⟩, rfl⟩
/-- PresentedRequestIsHeldSteady: a request presented in RD1, and one presented in IDLE in the step of a reset. -/
theorem witness_PresentedRequestIsHeldSteady :
    let busy := { during .rd1 0xFFFE 0x4000 [quietStep] with program := [.word 0] }
    let atReset := ready [.word 0] [⟨true, false, .none⟩]
    ((∃ t, step busy = .next t) ∧ busy.sampleInputs.reqValid = true ∧ busy.seq ≠ .idle) ∧
    (∃ t, step atReset = .next t) ∧ atReset.sampleInputs.reqValid = true ∧ atReset.sampleInputs.resetIn = true :=
  ⟨⟨⟨_, rfl⟩, by decide, by decide⟩, ⟨_, rfl⟩, by decide, by decide⟩
/-- AcknowledgementInTheStepOfAReset: RD1 with reset and acknowledgement in one step. -/
theorem witness_AcknowledgementInTheStepOfAReset :
    (during .rd1 0xFFFE 0x4000 [⟨true, false, .ack 0⟩]).xferTx = some 0xFFFE ∧
      (during .rd1 0xFFFE 0x4000 [⟨true, false, .ack 0⟩]).stimulus = [⟨true, false, .ack 0⟩] := by decide
/-- ResultsChangeOnlyAtCompletion: a step of RD1, whose next state has rsp_valid low. -/
theorem witness_ResultsChangeOnlyAtCompletion :
    (during .rd1 0xFFFE 0x4000 [ackStep 0]).sampleInputs.resetIn = false ∧
      (during .rd1 0xFFFE 0x4000 [ackStep 0]).seq = .rd1 ∧
      ∃ t, step (during .rd1 0xFFFE 0x4000 [ackStep 0]) = .next t ∧ t.rspValid = false := ⟨rfl, rfl, _, rfl, rfl⟩
/-- SequencerFollowsItsTable: a step from every SEQ. -/
theorem witness_SequencerFollowsItsTable :
    (∃ t, step (ready [.word 0x3FFE8] [quietStep]) = .next t) ∧
      (∃ t, step (during .rd1 0xFFFE 0x4000 [ackStep 0]) = .next t) ∧
      (∃ t, step (during .rd2 0xFFFE 0x4000 [ackStep 0]) = .next t) ∧
      (∃ t, step (during .wr1 0x8018 0x8005 [ackStep 0]) = .next t) ∧
      (∃ t, step (during .wr2 0x8018 0x8005 [quietStep]) = .next t) ∧
      (during .rd1 0xFFFE 0x4000 [ackStep 0]).sampleInputs.resetIn = false :=
  ⟨⟨_, rfl⟩, ⟨_, rfl⟩, ⟨_, rfl⟩, ⟨_, rfl⟩, ⟨_, rfl⟩, rfl⟩
/-- StuckWithoutAcknowledgement: RD2 with traffic of another device and no acknowledgement. -/
theorem witness_StuckWithoutAcknowledgement :
    (during .rd2 0xFFFE 0x4000 [⟨false, true, .late 7⟩]).Inv ∧
      (during .rd2 0xFFFE 0x4000 [⟨false, true, .late 7⟩]).seq ≠ .idle ∧
      ∀ e ∈ (during .rd2 0xFFFE 0x4000 [⟨false, true, .late 7⟩]).stimulus,
        e.reset = false ∧ e.ack.answers = false := ⟨during_rd2_inv _, by decide, by decide⟩
/-- OnlyTransactionsExchange: a step that records an exchange, and one that raises xfer_req. -/
theorem witness_OnlyTransactionsExchange :
    (∃ t, step (during .rd2 0xFFFE 0x4000 [ackStep 0]) = .next t ∧ sentWords t.busLog = [0x4000]) ∧
      (ready [.word 0x3FFE8] []).seq = .idle ∧ (ready [.word 0x3FFE8] []).xferReq = false ∧
      ∃ t, step (ready [.word 0x3FFE8] []) = .next t ∧ t.xferReq = true :=
  ⟨⟨_, rfl, by decide⟩, rfl, rfl, _, rfl, by decide⟩
/-- ChipSelectIdentifierNeverChanges: a step. -/
theorem witness_ChipSelectIdentifierNeverChanges : ∃ t, step (ready [] []) = .next t := ⟨_, rfl⟩
/-- ResetAppliesInAnyState: a reset in the middle of a read, without and with an acknowledgement in that step. -/
theorem witness_ResetAppliesInAnyState :
    ∀ ack ∈ [Ack.none, .ack 7],
      (during .rd2 0xFFFE 0x4000 [⟨true, false, ack⟩]).stimulus = [⟨true, false, ack⟩] ∧
        (⟨true, false, ack⟩ : EnvStep).reset = true ∧ ack.answers = (ack != .none) := by decide

end Sys2Proof.Tests
end

/-! SUPPORT. All a meaning can do to the state it runs in, and what the result registers and CS_ID make of it
(10_state.md R22, R29). -/

namespace Sys2Proof.Machine

/-- `t` is `s` after some writes of RSP_FRAME, RSP_VAL, RSP_PE and RSP_EF. -/
inductive ResultWrites (s : State) : State → Prop where
  | none : ResultWrites s s
  | frame {t : State} (v : Frame) : ResultWrites s t → ResultWrites s (t.setRspFrame v)
  | val {t : State} (v : Value) : ResultWrites s t → ResultWrites s (t.setRspVal v)
  | pe {t : State} (b : Bool) : ResultWrites s t → ResultWrites s (t.setRspPe b)
  | ef {t : State} (b : Bool) : ResultWrites s t → ResultWrites s (t.setRspEf b)

/-- What a meaning may make of `s`; `exec_effect` says that there is nothing else. -/
inductive ExecEffect (s : State) : State → Prop where
  /-- A request outside IDLE, or an exchange without its acknowledgement, is held. -/
  | held : s.seq ≠ .idle → ExecEffect s s
  /-- An operation that needs no exchange completes at once. -/
  | completed {t : State} (code : BitVec 2) :
      s.seq = .idle → ResultWrites s t → ExecEffect s (t.complete code)
  /-- A transaction is accepted. -/
  | started (first : Seq) (t1 t2 : Frame) :
      s.seq = .idle → (first = .rd1 ∨ first = .wr1) → ExecEffect s (s.startTransaction first t1 t2)
  /-- The first exchange of a transaction is acknowledged. -/
  | advanced (second : Seq) (tx : Frame) :
      (s.seq = .rd1 ∧ second = .rd2 ∨ s.seq = .wr1 ∧ second = .wr2) → s.xferAck = true →
      ExecEffect s ((s.recordExchange tx).startSecond second)
  /-- The second exchange of a transaction is acknowledged. -/
  | ended {t : State} (tx : Frame) :
      (s.seq = .rd2 ∨ s.seq = .wr2) → s.xferAck = true → ResultWrites (s.recordExchange tx) t →
      ExecEffect s (t.releaseBus.complete statusOk)
  /-- A pseudo-operation is expanded. -/
  | expanded (lines : List Line) : ExecEffect s (s.issueFirst lines)

/-- An operation is held, or has the effect it has in IDLE. -/
theorem perform_effect {f : State → State} {s t : State} (h : s.perform f = .next t)
    (hf : s.seq = .idle → ExecEffect s (f s)) : ExecEffect s t := by
  obtain ⟨hi, rfl⟩ | ⟨hb, rfl⟩ := perform_cases h
  · exact hf hi
  · exact .held hb

/-- An exchange is held, or has the effect of its acknowledgement. -/
theorem exchange_effect {pos : Seq} {tx : Frame} {k : State → State} {s t : State}
    (h : s.exchange pos tx k = .next t) (hp : pos ≠ .idle)
    (hk : s.seq = pos → s.xferAck = true → ExecEffect s (k (s.recordExchange tx))) : ExecEffect s t := by
  obtain ⟨hs, ⟨ha, rfl⟩ | ⟨-, rfl⟩⟩ := exchange_cases h
  · exact hk hs ha
  · exact .held (hs ▸ hp)

/-- A decoded data frame is four writes of result registers. -/
theorem resultWrites_loadDataFrame (s : State) (f : Frame) : ResultWrites s (s.loadDataFrame f) :=
  .pe _ (.ef _ (.val _ (.frame _ .none)))

/-- All a meaning that answers a next state can do. -/
theorem exec_effect {i : Instr} {s t : State} (h : exec i s = .next t) : ExecEffect s t := by
  cases i with
  | parGen a =>
    unfold exec execParGen at h
    exact perform_effect h fun hi => .completed _ hi (.frame _ (.val _ .none))
  | parChk a =>
    unfold exec execParChk at h
    exact perform_effect h fun hi => .completed _ hi (.pe _ (.val _ .none))
  | cmdEnc addr rw =>
    unfold exec execCmdEnc at h
    exact perform_effect h fun hi => .completed _ hi (.frame _ .none)
  | datEnc data =>
    unfold exec execDatEnc at h
    exact perform_effect h fun hi => .completed _ hi (.frame _ .none)
  | frmDec a =>
    unfold exec execFrmDec at h
    exact perform_effect h fun hi => .completed _ hi (resultWrites_loadDataFrame s a)
  | fldGet a d =>
    unfold exec execFldGet at h
    refine perform_effect h fun hi => ?_
    split
    · exact .completed _ hi (.val _ .none)
    · exact .completed _ hi .none
  | fldSet a b d =>
    unfold exec execFldSet at h
    refine perform_effect h fun hi => ?_
    split
    · exact .completed _ hi (.frame _ .none)
    · exact .completed _ hi .none
  | angScl raw =>
    unfold exec execAngScl at h
    exact perform_effect h fun hi => .completed _ hi (.val _ .none)
  | rdReg addr =>
    unfold exec execRdReg at h
    exact perform_effect h fun hi => .started _ _ _ hi (.inl rfl)
  | wrReg addr data =>
    unfold exec execWrReg at h
    exact perform_effect h fun hi => .started _ _ _ hi (.inr rfl)
  | reservedA | reservedB | reservedC | reservedD | reservedE | reservedF =>
    exact perform_effect (f := State.complete statusReservedOp) h fun hi => .completed _ hi .none
  | wireReadCmd addr parc =>
    unfold exec execWireReadCmd at h
    exact exchange_effect h (by decide) fun hs ha => .advanced _ _ (.inl ⟨hs, rfl⟩) ha
  | wireNop =>
    unfold exec execWireNop at h
    exact exchange_effect h (by decide) fun hs ha =>
      .ended _ (.inl hs) ha (resultWrites_loadDataFrame _ _)
  | wireWriteCmd addr parc =>
    unfold exec execWireWriteCmd at h
    exact exchange_effect h (by decide) fun hs ha => .advanced _ _ (.inr ⟨hs, rfl⟩) ha
  | wireData data ef pard =>
    unfold exec execWireData at h
    exact exchange_effect h (by decide) fun hs ha => .ended _ (.inr hs) ha .none
  | readAngle | writeZpos | writeSettings1 | writeSettings2 | readRegister | writeRegister =>
    obtain rfl := Host.Outcome.next.inj h
    exact .expanded _

/-- An instruction runs in the sampled state, but for the line taken and the flag of a copy without a value. -/
theorem fetch_state {s u : State} {i : Instr} (h : s.fetch = .instr i u) :
    ∃ lines flag, u = { s with program := lines, noValueRead := flag } := by
  obtain ⟨-, _, _, -, -, rfl⟩ | ⟨-, _, -, -, rfl⟩ := fetch_cases h
  · exact ⟨_, _, rfl⟩
  · exact ⟨_, _, rfl⟩

/-- All a step can do: a reset, nothing, or the effect of a meaning on the sampled state. -/
theorem step_effect {s t : State} (h : step s = .next t) :
    (s.sampleInputs.resetIn = true ∧ t = s.sampleInputs.applyReset) ∨
    (s.sampleInputs.resetIn = false ∧ t = s.sampleInputs) ∨
    (s.sampleInputs.resetIn = false ∧ ∃ lines flag,
      ExecEffect { s.sampleInputs with program := lines, noValueRead := flag } t) := by
  obtain hreset | ⟨hr, -, rfl⟩ | ⟨hr, i, u, hf, he⟩ := step_cases h
  · exact .inl hreset
  · exact .inr (.inl ⟨hr, rfl⟩)
  · obtain ⟨lines, flag, rfl⟩ := fetch_state hf
    exact .inr (.inr ⟨hr, lines, flag, exec_effect he⟩)

/-! The result registers change only in a completing step (R29). -/

@[simp] theorem results_sampleInputs (s : State) : s.sampleInputs.results = s.results := by
  simp [State.results]

/-- A meaning that changes a result register completes an operation, in IDLE or at the end of a second exchange. -/
theorem ExecEffect.results_kept_or_completes {s t : State} (h : ExecEffect s t) :
    t.results = s.results ∨ (t.rspValid = true ∧ (s.seq = .idle ∨ s.seq = .rd2 ∨ s.seq = .wr2)) := by
  cases h with
  | held => exact .inl rfl
  | completed code hi => exact .inr ⟨rfl, .inl hi⟩
  | started => exact .inl rfl
  | advanced => exact .inl rfl
  | ended tx hs => exact .inr ⟨rfl, .inr hs⟩
  | expanded => exact .inl rfl

/-- A step without reset that changes a result register completes an operation, in IDLE or at the end of a second
exchange. -/
theorem step_results_kept_or_completes {s t : State} (h : step s = .next t)
    (hr : s.sampleInputs.resetIn = false) :
    t.results = s.results ∨ (t.rspValid = true ∧ (s.seq = .idle ∨ s.seq = .rd2 ∨ s.seq = .wr2)) := by
  obtain ⟨hreset, -⟩ | ⟨-, rfl⟩ | ⟨-, lines, flag, he⟩ := step_effect h
  · simp [hr] at hreset
  · exact .inl (results_sampleInputs s)
  · rw [← results_sampleInputs s, ← sampleInputs_seq s]
    exact he.results_kept_or_completes

/-- Settles O48: only a completing meaning writes a result register (R29), and none completes in RD1. -/
theorem resultsChangeOnlyAtCompletion : Obligations.ResultsChangeOnlyAtCompletion := by
  intro s t h hr
  obtain hkept | ⟨hvalid, hseq⟩ := step_results_kept_or_completes h hr
  · exact ⟨fun _ => hkept, fun _ => hkept⟩
  · exact ⟨fun hlow => by simp [hvalid] at hlow, fun hrd1 => by simp [hrd1] at hseq⟩

/-! No operation writes CS_ID (R22). -/

/-- Writes of the result registers leave CS_ID as it was. -/
theorem ResultWrites.csId_eq {s t : State} (h : ResultWrites s t) : t.csId = s.csId := by
  induction h with
  | none => rfl
  | frame _ _ ih => exact ih
  | val _ _ ih => exact ih
  | pe _ _ ih => exact ih
  | ef _ _ ih => exact ih

/-- No meaning writes CS_ID. -/
theorem ExecEffect.csId_eq {s t : State} (h : ExecEffect s t) : t.csId = s.csId := by
  cases h with
  | held => rfl
  | completed _ _ hw => exact hw.csId_eq
  | started => rfl
  | advanced => rfl
  | ended _ _ _ hw => exact hw.csId_eq
  | expanded => rfl

/-- No step writes CS_ID, the step of a reset included. -/
theorem step_csId {s t : State} (h : step s = .next t) : t.csId = s.csId := by
  obtain ⟨-, rfl⟩ | ⟨-, rfl⟩ | ⟨-, lines, flag, he⟩ := step_effect h
  · rw [applyReset_csId, sampleInputs_csId]
  · exact sampleInputs_csId s
  · exact he.csId_eq.trans (sampleInputs_csId s)

/-- Settles O52: every step keeps CS_ID (R22), and xfer_cs is CS_ID (R47). -/
theorem chipSelectIdentifierNeverChanges : Obligations.ChipSelectIdentifierNeverChanges :=
  ⟨fun _ _ h => ⟨step_csId h, step_csId h⟩, rfl⟩

end Sys2Proof.Machine

/-! SUPPORT. The exchange a busy block finds to run, and what the block does while the transport does not answer
(20_memory.md R50, 43_sequencer.md R113). -/

namespace Sys2Proof.Machine

/-! What the four exchange positions run (R63, R113). -/

/-- In RD1 the block runs the read command latched in TX1. -/
theorem fetch_rd1 {s : State} (hs : s.seq = .rd1) (hread : frameBit14 s.tx1 = true) :
    s.fetch = .instr (.wireReadCmd (frameLow s.tx1) (frameBit15 s.tx1)) s := by
  simp [State.fetch, State.frameOnBus, hs, fetchFrame, decode, decodeCommand, hread]

/-- In RD2 the block runs the NOP frame latched in TX2. -/
theorem fetch_rd2 {s : State} (hs : s.seq = .rd2) (hnop : s.tx2 = 0x4000#16) :
    s.fetch = .instr .wireNop s := by
  simp [State.fetch, State.frameOnBus, hs, fetchFrame, decode, hnop]

/-- In WR1 the block runs the write command latched in TX1. -/
theorem fetch_wr1 {s : State} (hs : s.seq = .wr1) (hwrite : frameBit14 s.tx1 = false) :
    s.fetch = .instr (.wireWriteCmd (frameLow s.tx1) (frameBit15 s.tx1)) s := by
  simp [State.fetch, State.frameOnBus, hs, fetchFrame, decode, decodeCommand, hwrite]

/-- In WR2 the block runs the data frame latched in TX2, whatever it holds. -/
theorem fetch_wr2 {s : State} (hs : s.seq = .wr2) :
    s.fetch = .instr (.wireData (frameLow s.tx2) (frameBit14 s.tx2) (frameBit15 s.tx2)) s := by
  simp [State.fetch, State.frameOnBus, hs, fetchFrame, decode, decodeData]

/-! Each wire frame's meaning is an exchange at its own position (R113). -/

theorem exec_wireReadCmd_eq_exchange (addr : Field14) (parc : Bool) (s : State) :
    exec (.wireReadCmd addr parc) s = s.exchange .rd1 (packFrame parc true addr) (State.startSecond .rd2) := rfl

theorem exec_wireNop_eq_exchange (s : State) :
    exec .wireNop s =
      s.exchange .rd2 nopFrame fun s => (s.loadDataFrame s.xferRx).releaseBus.complete statusOk := rfl

theorem exec_wireWriteCmd_eq_exchange (addr : Field14) (parc : Bool) (s : State) :
    exec (.wireWriteCmd addr parc) s = s.exchange .wr1 (packFrame parc false addr) (State.startSecond .wr2) := rfl

theorem exec_wireData_eq_exchange (data : Field14) (ef pard : Bool) (s : State) :
    exec (.wireData data ef pard) s =
      s.exchange .wr2 (packFrame pard ef data) fun s => s.releaseBus.complete statusOk := rfl

/-- A busy block whose latches hold its transaction's frames runs an exchange at its own position. -/
theorem fetch_exchange {s : State} (hl : s.LatchesOk) (hb : s.seq ≠ .idle) :
    ∃ i tx k, s.fetch = .instr i s ∧ exec i s = s.exchange s.seq tx k := by
  unfold State.LatchesOk at hl
  cases hs : s.seq with
  | idle => exact absurd hs hb
  | rd1 =>
    obtain ⟨hread, -⟩ := by simpa only [hs] using hl
    exact ⟨_, _, _, fetch_rd1 hs hread, exec_wireReadCmd_eq_exchange _ _ _⟩
  | rd2 =>
    obtain ⟨-, -, hnop⟩ := by simpa only [hs] using hl
    exact ⟨_, _, _, fetch_rd2 hs hnop, exec_wireNop_eq_exchange _⟩
  | wr1 =>
    obtain ⟨hwrite, -⟩ := by simpa only [hs] using hl
    exact ⟨_, _, _, fetch_wr1 hs hwrite, exec_wireWriteCmd_eq_exchange _ _ _⟩
  | wr2 => exact ⟨_, _, _, fetch_wr2 hs, exec_wireData_eq_exchange _ _ _ _⟩

/-! Sampling the inputs leaves the block itself alone. -/

@[simp] theorem latchesOk_sampleInputs (s : State) : s.sampleInputs.LatchesOk ↔ s.LatchesOk := by
  simp [State.LatchesOk]

@[simp] theorem reqReady_sampleInputs (s : State) : s.sampleInputs.reqReady = s.reqReady := by
  simp [State.reqReady]

/-- What one sampling of the inputs leaves alone, any number of them leaves alone. -/
theorem iterate_sampleInputs_eq {α : Type} {f : State → α} (hf : ∀ s : State, f s.sampleInputs = f s)
    (k : Nat) (s : State) : f (State.sampleInputs^[k] s) = f s := by
  induction k generalizing s with
  | zero => rfl
  | succ k ih => rw [Function.iterate_succ_apply, ih, hf]

/-- rsp_valid stays low however often the inputs are sampled. -/
theorem iterate_sampleInputs_rspValid {s : State} (hv : s.rspValid = false) (k : Nat) :
    (State.sampleInputs^[k] s).rspValid = false := by
  cases k with
  | zero => exact hv
  | succ k => rw [Function.iterate_succ_apply', sampleInputs_rspValid]

/-! An environment that neither acknowledges nor resets (R50). -/

/-- No step to come acknowledges or resets; late acknowledgements and foreign traffic may come. -/
def State.Unanswered (s : State) : Prop :=
  ∀ e ∈ s.stimulus, e.reset = false ∧ e.ack.answers = false

/-- The inputs such an environment raises are neither a reset nor an acknowledgement. -/
theorem State.Unanswered.inputs_low {s : State} (h : s.Unanswered) :
    s.sampleInputs.resetIn = false ∧ s.sampleInputs.xferAck = false := by
  unfold State.sampleInputs
  split
  · exact ⟨rfl, rfl⟩
  · next e rest he => exact h e (he ▸ List.mem_cons_self)

/-- After a step such an environment is still one. -/
theorem State.Unanswered.sampleInputs {s : State} (h : s.Unanswered) : s.sampleInputs.Unanswered := by
  intro e he
  rw [sampleInputs_stimulus] at he
  exact h e (List.mem_of_mem_tail he)

/-- A busy block that is not answered does nothing in a step but sample its inputs. -/
theorem step_unanswered {s : State} (hl : s.LatchesOk) (hb : s.seq ≠ .idle) (hu : s.Unanswered) :
    step s = .next s.sampleInputs := by
  obtain ⟨hr, ha⟩ := hu.inputs_low
  obtain ⟨i, tx, k, hf, he⟩ :=
    fetch_exchange ((latchesOk_sampleInputs s).mpr hl) (by rwa [sampleInputs_seq])
  calc step s = exec i s.sampleInputs := by simp [step, hr, hf]
    _ = s.sampleInputs.exchange s.sampleInputs.seq tx k := he
    _ = .next s.sampleInputs := exchange_held tx k rfl ha

/-- Nor does it in any number of steps. -/
theorem runSteps_unanswered {s : State} (hl : s.LatchesOk) (hb : s.seq ≠ .idle) (hu : s.Unanswered)
    (k : Nat) : runSteps k s = .next (State.sampleInputs^[k] s) := by
  induction k generalizing s with
  | zero => rfl
  | succ k ih =>
    simp only [runSteps, step_unanswered hl hb hu]
    exact ih ((latchesOk_sampleInputs s).mpr hl) (by rwa [sampleInputs_seq]) hu.sampleInputs

/-- Settles O50: without an answer every step only samples the inputs, and sampling moves none of the block's own
state (R50). -/
theorem stuckWithoutAcknowledgement : Obligations.StuckWithoutAcknowledgement := by
  intro s k hinv hb hu
  have hown : s.busOwn = true := by rw [hinv.busOwn_iff]; simpa using hb
  have hready : s.reqReady = false := by simpa [State.reqReady] using hb
  have hvalid : s.rspValid = false := Bool.eq_false_iff.mpr fun hv => hb (hinv.valid_idle hv)
  refine ⟨_, runSteps_unanswered hinv.latches hb hu k, ?seq, ?busOwn, ?reqReady, ?results, ?program,
    iterate_sampleInputs_rspValid hvalid k⟩
  case seq => exact iterate_sampleInputs_eq sampleInputs_seq k s
  case busOwn => exact (iterate_sampleInputs_eq sampleInputs_busOwn k s).trans hown
  case reqReady => exact (iterate_sampleInputs_eq reqReady_sampleInputs k s).trans hready
  case results => exact iterate_sampleInputs_eq results_sampleInputs k s
  case program => exact iterate_sampleInputs_eq sampleInputs_program k s

end Sys2Proof.Machine

/-! SUPPORT. The reserved opcodes 0xA to 0xF: what their words decode to and what they do (30_encoding.md R72). -/

namespace Sys2Proof.Machine

/-- Completing an operation in IDLE leaves SEQ as it is: only RSP_ERR with its mark and rsp_valid are written. -/
theorem complete_eq_of_idle (code : BitVec 2) {s : State} (hs : s.seq = .idle) :
    s.complete code = { s with rspErr := code, errSet := true, rspValid := true } := by
  simp [State.complete, ← hs]

/-- Each reserved OP selects its own row of R70, whatever the operands. -/
theorem decodeRequest_requestWord_reserved (a b : Frame) (c : BitVec 10) :
    decodeRequest (requestWord 10 a b c) = .reservedA ∧
    decodeRequest (requestWord 11 a b c) = .reservedB ∧
    decodeRequest (requestWord 12 a b c) = .reservedC ∧
    decodeRequest (requestWord 13 a b c) = .reservedD ∧
    decodeRequest (requestWord 14 a b c) = .reservedE ∧
    decodeRequest (requestWord 15 a b c) = .reservedF := by
  refine ⟨?_, ?_, ?_, ?_, ?_, ?_⟩ <;> simp only [decodeRequest, requestOp_requestWord] <;> rfl

/-- The six reserved instructions have one meaning: complete with RESERVED_OP. -/
theorem exec_reserved_eq_perform {i : Instr}
    (hi : i ∈ [Instr.reservedA, .reservedB, .reservedC, .reservedD, .reservedE, .reservedF]) (s : State) :
    exec i s = s.perform (State.complete statusReservedOp) := by
  simp only [List.mem_cons, List.not_mem_nil, or_false] at hi
  obtain rfl | rfl | rfl | rfl | rfl | rfl := hi <;> rfl

/-- Settles O9: a reserved OP decodes to its own row, and in IDLE every such row only completes, with status
RESERVED_OP (R72). -/
theorem reservedOpcodesWriteOnlyStatus : Obligations.ReservedOpcodesWriteOnlyStatus := by
  intro a b c s hs
  refine ⟨decodeRequest_requestWord_reserved a b c, fun i hi => ?_⟩
  calc exec i s = s.perform (State.complete statusReservedOp) := exec_reserved_eq_perform hi s
    _ = .next (s.complete statusReservedOp) := perform_idle _ hs
    _ = .next { s with rspErr := 1, errSet := true, rspValid := true } :=
      congrArg Host.Outcome.next (complete_eq_of_idle statusReservedOp hs)

end Sys2Proof.Machine

/-! SUPPORT. The field of a backing value as a number, what its insertion leaves, and FLD_GET and FLD_SET in IDLE
(40_bitfield_codec.md R82 to R86). -/

namespace Sys2Proof

/-! Masks, the backing value and the legality of a descriptor. -/

/-- Masking to a width is reducing modulo its power of two (R13), for a width past the word's own too. -/
theorem and_lowMask_toNat (v : Frame) (w : Nat) : (v &&& lowMask w).toNat = v.toNat % 2 ^ w := by
  refine Nat.eq_of_testBit_eq fun i => ?_
  by_cases hi : i < 16
  · simp only [lowMask, BitVec.toNat_and, BitVec.toNat_ofNat, Nat.testBit_and, Nat.testBit_mod_two_pow,
      Nat.testBit_two_pow_sub_one, hi, decide_true, Bool.true_and, Bool.and_comm]
  · have hv : v.toNat.testBit i = false := BitVec.testBit_toNat v ▸ BitVec.getLsbD_of_ge v i (by omega)
    simp [hv]

/-- The descriptors R82 calls legal. -/
theorem FieldDesc.legal_iff (d : FieldDesc) :
    d.legal = true ↔ 1 ≤ d.wid.toNat ∧ d.off.toNat + d.wid.toNat ≤ d.backing := by
  simp only [FieldDesc.legal, Bool.and_eq_true, decide_eq_true_eq]

/-- A descriptor is illegal under the guard that R83 and R84 open with. -/
theorem FieldDesc.not_legal_iff (d : FieldDesc) :
    ¬ d.legal = true ↔ d.wid.toNat = 0 ∨ d.off.toNat + d.wid.toNat > if d.bw then 8 else 16 := by
  rw [d.legal_iff, ← FieldDesc.backing]
  omega

theorem FieldDesc.raw_toNat (d : FieldDesc) (a : Frame) :
    (d.raw a).toNat = if d.bw then a.toNat % 256 else a.toNat := by
  unfold FieldDesc.raw
  split
  · simp only [BitVec.toNat_setWidth, BitVec.extractLsb'_toNat]
    omega
  · rfl

theorem FieldDesc.raw_eq_ite_and (d : FieldDesc) (a : Frame) :
    d.raw a = if d.bw then a &&& 0xFF#16 else a := by
  refine BitVec.eq_of_toNat_eq ?_
  rw [d.raw_toNat]
  split
  · exact (and_lowMask_toNat a 8).symm
  · rfl

/-- An 8-bit backing value does not see what stands above the low byte (R86). -/
theorem FieldDesc.raw_and_lowByte {d : FieldDesc} (hbw : d.bw = true) (a : Frame) :
    d.raw (a &&& 0xFF#16) = d.raw a := by
  simp [d.raw_eq_ite_and, hbw, BitVec.and_assoc]

theorem FieldDesc.raw_toNat_lt (d : FieldDesc) (a : Frame) : (d.raw a).toNat < 2 ^ d.backing := by
  rw [d.raw_toNat]
  unfold FieldDesc.backing
  split
  · omega
  · exact a.isLt

/-! The field read and the field replaced. -/

/-- The field read is a quotient and a remainder of the backing value (R83). -/
theorem FieldDesc.extract_toNat (d : FieldDesc) (a : Frame) :
    (d.extract a).toNat = (d.raw a).toNat / 2 ^ d.off.toNat % 2 ^ d.wid.toNat := by
  rw [FieldDesc.extract, and_lowMask_toNat, BitVec.toNat_ushiftRight, Nat.shiftRight_eq_div_pow]

/-- The value in place in its field stays below the field's upper edge. -/
theorem and_lowMask_shiftLeft_toNat_lt (b : Frame) (off wid : Nat) :
    ((b &&& lowMask wid) <<< off).toNat < 2 ^ (off + wid) :=
  calc ((b &&& lowMask wid) <<< off).toNat
      ≤ (b &&& lowMask wid).toNat <<< off := by
        rw [BitVec.toNat_shiftLeft]
        exact Nat.mod_le _ _
    _ = b.toNat % 2 ^ wid * 2 ^ off := by rw [and_lowMask_toNat, Nat.shiftLeft_eq]
    _ < 2 ^ wid * 2 ^ off := Nat.mul_lt_mul_of_pos_right (Nat.mod_lt _ (by positivity)) (by positivity)
    _ = 2 ^ (off + wid) := by rw [Nat.pow_add, Nat.mul_comm]

/-- Replacing a field inside the backing width leaves a value of that width (R86). -/
theorem FieldDesc.insert_toNat_lt {d : FieldDesc} (a b : Frame)
    (hfit : d.off.toNat + d.wid.toNat ≤ d.backing) : (d.insert a b).toNat < 2 ^ d.backing := by
  have hkept : (d.raw a &&& ~~~(lowMask d.wid.toNat <<< d.off.toNat)).toNat < 2 ^ d.backing := by
    rw [BitVec.toNat_and]
    exact Nat.and_le_left.trans_lt (d.raw_toNat_lt a)
  have hput : ((b &&& lowMask d.wid.toNat) <<< d.off.toNat).toNat < 2 ^ d.backing :=
    (and_lowMask_shiftLeft_toNat_lt b _ _).trans_le (Nat.pow_le_pow_right (by omega) hfit)
  rw [FieldDesc.insert, BitVec.toNat_or]
  exact Nat.or_lt_two_pow hkept hput

namespace Machine

/-! What the two operations are in the request word and in IDLE. -/

theorem decodeRequest_requestWord_fldGet (a b : Frame) (d : FieldDesc) :
    decodeRequest (requestWord 5 a b (cOfDesc d)) = .fldGet a d := by
  simp [decodeRequest]

theorem decodeRequest_requestWord_fldSet (a b : Frame) (d : FieldDesc) :
    decodeRequest (requestWord 6 a b (cOfDesc d)) = .fldSet a b d := by
  simp [decodeRequest]

theorem exec_fldGet_idle (a : Frame) (d : FieldDesc) {s : State} (hs : s.seq = .idle) :
    exec (.fldGet a d) s = .next
      (if d.legal then (s.setRspVal ((d.extract a).setWidth 20)).complete statusOk
      else s.complete statusBadField) := by
  simp only [exec, execFldGet, perform_idle _ hs]

theorem exec_fldSet_idle (a b : Frame) (d : FieldDesc) {s : State} (hs : s.seq = .idle) :
    exec (.fldSet a b d) s = .next
      (if d.legal then (s.setRspFrame (d.insert a b)).complete statusOk
      else s.complete statusBadField) := by
  simp only [exec, execFldSet, perform_idle _ hs]

/-- The two completions of a codec operation field by field: BAD_FIELD under the guard of R82 with nothing written,
else OK over the state `t` that holds its result. -/
theorem complete_field_eq {s t : State} (hs : s.seq = .idle) (ht : t.seq = s.seq) (d : FieldDesc) :
    (if d.legal then t.complete statusOk else s.complete statusBadField) =
      if d.wid.toNat = 0 ∨ d.off.toNat + d.wid.toNat > (if d.bw then 8 else 16) then
        { s with rspErr := 2, errSet := true, rspValid := true }
      else { t with rspErr := 0, errSet := true, rspValid := true } := by
  simp only [← d.not_legal_iff, ite_not]
  rw [complete_eq_of_idle _ hs, complete_eq_of_idle _ (ht.trans hs)]
  rfl

/-- FLD_GET reads A only through the backing value. -/
theorem exec_fldGet_congr {d : FieldDesc} {a a' : Frame} (h : d.raw a = d.raw a') (s : State) :
    exec (.fldGet a d) s = exec (.fldGet a' d) s := by
  simp only [exec, execFldGet, FieldDesc.extract, h]

/-- FLD_SET reads A only through the backing value. -/
theorem exec_fldSet_congr {d : FieldDesc} {a a' : Frame} (h : d.raw a = d.raw a') (b : Frame) (s : State) :
    exec (.fldSet a b d) s = exec (.fldSet a' b d) s := by
  simp only [exec, execFldSet, FieldDesc.insert, h]

/-- Settles O6: the masked shift of the backing value is the quotient and remainder of R83. -/
theorem fldGetExtractsField : Obligations.FldGetExtractsField := by
  intro a b d s hs
  refine ⟨decodeRequest_requestWord_fldGet a b d, ?_⟩
  have hfield : (d.extract a).setWidth 20 = BitVec.ofNat 20
      ((if d.bw then a.toNat % 256 else a.toNat) / 2 ^ d.off.toNat % 2 ^ d.wid.toNat) := by
    rw [← BitVec.ofNat_toNat, d.extract_toNat, d.raw_toNat]
  rw [exec_fldGet_idle a d hs, complete_field_eq hs (setRspVal_seq s _) d, hfield]
  rfl

/-- Settles O7: the insertion of the model is R84's, its backing value being A or A's low byte. -/
theorem fldSetReplacesField : Obligations.FldSetReplacesField := by
  intro a b d s hs
  refine ⟨decodeRequest_requestWord_fldSet a b d, ?_⟩
  rw [exec_fldSet_idle a b d hs, complete_field_eq hs (setRspFrame_seq s _) d, ← d.raw_eq_ite_and]
  rfl

/-- Settles O33: both operations see A only through its low byte, and a field inside that byte is replaced within it
(R86). -/
theorem byteBackingReadsLowByteOnly : Obligations.ByteBackingReadsLowByteOnly := by
  intro d a v s hbw hs
  have hraw : d.raw a = d.raw (a &&& 0xFF#16) := (d.raw_and_lowByte hbw a).symm
  refine ⟨exec_fldGet_congr hraw s, exec_fldSet_congr hraw v s, fun hwid hfit => ?_⟩
  have hbacking : d.backing = 8 := by simp [FieldDesc.backing, hbw]
  have hlegal : d.legal = true := d.legal_iff.mpr ⟨hwid, hbacking ▸ hfit⟩
  refine ⟨(s.setRspFrame (d.insert a v)).complete statusOk, ?_, ?_⟩
  · rw [exec_fldSet_idle a v d hs, if_pos hlegal]
  · simpa [hbacking] using d.insert_toNat_lt a v (hbacking ▸ hfit)

end Machine

end Sys2Proof

/-! SUPPORT. The parity bit as the spec's if/else, as a number and in its place in a frame, and PAR_GEN and PAR_CHK in
IDLE (41_parity.md R93, R95, R96). -/

namespace Sys2Proof

/-- P is the decision whether the count of the low 15 bits is even (R93). -/
theorem parityBit_eq_decide (f : Frame) : parityBit f = decide (popcount (f.extractLsb' 0 15) % 2 = 0) := rfl

/-- What is made of P is one of two things, chosen by that count. -/
theorem apply_parityBit {α : Type} (g : Bool → α) (f : Frame) :
    g (parityBit f) = if popcount (f.extractLsb' 0 15) % 2 = 0 then g true else g false := by
  rw [parityBit_eq_decide]
  split
  case isTrue heven => rw [decide_eq_true heven]
  case isFalse hodd => rw [decide_eq_false hodd]

/-- P zero-extended to a result value (R95, R96). -/
theorem parityBit_setWidth_value (f : Frame) :
    (BitVec.ofBool (parityBit f)).setWidth 20 =
      if popcount (f.extractLsb' 0 15) % 2 = 0 then 1#20 else 0#20 :=
  apply_parityBit (fun p => (BitVec.ofBool p).setWidth 20) f

/-- Inserting the parity keeps the low 15 bits and replaces bit 15 by P (R95). -/
theorem withParity_eq_or_ite (f : Frame) :
    withParity f = (f &&& 0x7FFF#16) ||| (if popcount (f.extractLsb' 0 15) % 2 = 0 then 0x8000#16 else 0#16) :=
  congrArg ((f &&& 0x7FFF#16) ||| ·) (apply_parityBit (fun p => (BitVec.ofBool p).setWidth 16 <<< 15) f)

/-- The parity fault compares the carried bit 15 with the recomputed P (R96). -/
theorem parityFault_eq_xor_decide (f : Frame) :
    parityFault f = (f.getLsbD 15 ^^ decide (popcount (f.extractLsb' 0 15) % 2 = 0)) := rfl

namespace Machine

theorem decodeRequest_requestWord_parGen (a b : Frame) (c : BitVec 10) :
    decodeRequest (requestWord 0 a b c) = .parGen a := by
  simp [decodeRequest]

theorem decodeRequest_requestWord_parChk (a b : Frame) (c : BitVec 10) :
    decodeRequest (requestWord 1 a b c) = .parChk a := by
  simp [decodeRequest]

theorem exec_parGen_idle (a : Frame) {s : State} (hs : s.seq = .idle) :
    exec (.parGen a) s = .next
      (((s.setRspVal ((BitVec.ofBool (parityBit a)).setWidth 20)).setRspFrame (withParity a)).complete statusOk) := by
  simp only [exec, execParGen, perform_idle _ hs]

theorem exec_parChk_idle (a : Frame) {s : State} (hs : s.seq = .idle) :
    exec (.parChk a) s = .next
      (((s.setRspVal ((BitVec.ofBool (parityBit a)).setWidth 20)).setRspPe (parityFault a)).complete statusOk) := by
  simp only [exec, execParChk, perform_idle _ hs]

/-- Settles O1: OP 0 selects PAR_GEN whatever B and C, and in IDLE it writes P and the frame with P inserted, SEQ
staying IDLE at the completion (R95). -/
theorem parGenInsertsParity : Obligations.ParGenInsertsParity := by
  intro a b c s hs
  refine ⟨decodeRequest_requestWord_parGen a b c, ?_⟩
  have hidle (v : Value) (f : Frame) : ((s.setRspVal v).setRspFrame f).seq = .idle := by simp [hs]
  rw [exec_parGen_idle a hs, complete_eq_of_idle _ (hidle _ _), parityBit_setWidth_value, withParity_eq_or_ite]
  rfl

/-- Settles O2: OP 1 selects PAR_CHK whatever B and C, and in IDLE it writes P and the parity fault, SEQ staying IDLE
at the completion (R96). -/
theorem parChkFlagsMismatch : Obligations.ParChkFlagsMismatch := by
  intro a b c s hs
  refine ⟨decodeRequest_requestWord_parChk a b c, ?_⟩
  have hidle (v : Value) (fault : Bool) : ((s.setRspVal v).setRspPe fault).seq = .idle := by simp [hs]
  rw [exec_parChk_idle a hs, complete_eq_of_idle _ (hidle _ _), parityBit_setWidth_value,
    parityFault_eq_xor_decide]
  rfl

end Machine

end Sys2Proof

/-! SUPPORT. The frames the block builds as masks of the request's operands, and CMD_ENC, DAT_ENC and FRM_DEC in IDLE
(42_frame_codec.md R101 to R103). -/

namespace Sys2Proof

/-- ADDR or DATA zero-extended is the frame with bits 15 and 14 masked away (R64, R66, R103). -/
theorem frameLow_setWidth (f : Frame) (n : Nat) : (frameLow f).setWidth n = (f &&& 0x3FFF#16).setWidth n := by
  have hlow : (frameLow f).toNat = (f &&& 0x3FFF#16).toNat :=
    calc (frameLow f).toNat = f.toNat % 2 ^ 14 := by simp [frameLow]
      _ = (f &&& lowMask 14).toNat := (and_lowMask_toNat f 14).symm
  exact BitVec.eq_of_toNat_eq (by simp only [BitVec.toNat_setWidth, hlow])

/-- Where bit 15 is clear, inserting the parity only adds P there (R101, R102). -/
theorem withParity_eq_or_ite_of_bit15_clear {lo : Frame} (hclear : lo &&& 0x7FFF#16 = lo) :
    withParity lo = lo ||| (if popcount (lo.extractLsb' 0 15) % 2 = 0 then 0x8000#16 else 0#16) := by
  rw [withParity_eq_or_ite, hclear]

/-- CMD_ENC's frame: ADDR, RW at bit 14 and P at bit 15 (R101). -/
theorem commandFrame_eq_or_ite (a b : Frame) :
    let lo : Frame := (a &&& 0x3FFF#16) ||| ((b &&& 1#16) <<< 14)
    commandFrame (frameLow a) (b.getLsbD 0) =
      lo ||| (if popcount (lo.extractLsb' 0 15) % 2 = 0 then 0x8000#16 else 0#16) := by
  intro lo
  have haddr : a &&& 0x3FFF#16 &&& 0x7FFF#16 = a &&& 0x3FFF#16 := BitVec.and_assoc a _ _
  have hrw : (b &&& 1#16) <<< 14 &&& 0x7FFF#16 = (b &&& 1#16) <<< 14 := by
    rw [BitVec.shiftLeft_and_distrib]
    exact BitVec.and_assoc (b <<< 14) _ _
  have hclear : lo &&& 0x7FFF#16 = lo := by rw [BitVec.and_or_distrib_right, haddr, hrw]
  rw [← withParity_eq_or_ite_of_bit15_clear hclear, commandFrame, frameLow_setWidth, BitVec.setWidth_eq,
    ← BitVec.and_one_eq_setWidth_ofBool_getLsbD]

/-- DAT_ENC's frame: DATA, EF = 0 and P at bit 15 (R102). -/
theorem dataFrame_eq_or_ite (a : Frame) :
    let lo : Frame := a &&& 0x3FFF#16
    dataFrame (frameLow a) =
      lo ||| (if popcount (lo.extractLsb' 0 15) % 2 = 0 then 0x8000#16 else 0#16) := by
  intro lo
  have hclear : lo &&& 0x7FFF#16 = lo := BitVec.and_assoc a _ _
  rw [← withParity_eq_or_ite_of_bit15_clear hclear, dataFrame, frameLow_setWidth, BitVec.setWidth_eq]

namespace Machine

theorem decodeRequest_requestWord_cmdEnc (a b : Frame) (c : BitVec 10) :
    decodeRequest (requestWord 2 a b c) = .cmdEnc (frameLow a) (b.getLsbD 0) := by
  simp [decodeRequest]

theorem decodeRequest_requestWord_datEnc (a b : Frame) (c : BitVec 10) :
    decodeRequest (requestWord 3 a b c) = .datEnc (frameLow a) := by
  simp [decodeRequest]

theorem decodeRequest_requestWord_frmDec (a b : Frame) (c : BitVec 10) :
    decodeRequest (requestWord 4 a b c) = .frmDec a := by
  simp [decodeRequest]

theorem exec_cmdEnc_idle (addr : Field14) (rw : Bool) {s : State} (hs : s.seq = .idle) :
    exec (.cmdEnc addr rw) s = .next ((s.setRspFrame (commandFrame addr rw)).complete statusOk) := by
  simp only [exec, execCmdEnc, perform_idle _ hs]

theorem exec_datEnc_idle (data : Field14) {s : State} (hs : s.seq = .idle) :
    exec (.datEnc data) s = .next ((s.setRspFrame (dataFrame data)).complete statusOk) := by
  simp only [exec, execDatEnc, perform_idle _ hs]

theorem exec_frmDec_idle (a : Frame) {s : State} (hs : s.seq = .idle) :
    exec (.frmDec a) s = .next ((s.loadDataFrame a).complete statusOk) := by
  simp only [exec, execFrmDec, perform_idle _ hs]

/-- What an encoder completes with in IDLE, field by field: its frame and status OK, SEQ staying IDLE (R101, R102). -/
theorem complete_setRspFrame_of_idle (f : Frame) {s : State} (hs : s.seq = .idle) :
    (s.setRspFrame f).complete statusOk =
      { s with rspFrame := f, frameSet := true, rspErr := 0, errSet := true, rspValid := true } :=
  complete_eq_of_idle statusOk ((setRspFrame_seq s f).trans hs)

/-- Settles O3: OP 2 selects CMD_ENC of A[13:0] and B[0], and in IDLE it writes that address and RW with P above them
(R101). -/
theorem cmdEncBuildsCommandFrame : Obligations.CmdEncBuildsCommandFrame := by
  intro a b c s hs lo
  refine ⟨decodeRequest_requestWord_cmdEnc a b c, ?_⟩
  rw [← commandFrame_eq_or_ite a b, ← complete_setRspFrame_of_idle _ hs]
  exact exec_cmdEnc_idle _ _ hs

/-- Settles O4: OP 3 selects DAT_ENC of A[13:0], and in IDLE it writes that data, EF = 0 by the mask, with P above
(R102). -/
theorem datEncBuildsDataFrame : Obligations.DatEncBuildsDataFrame := by
  intro a b c s hs lo
  refine ⟨decodeRequest_requestWord_datEnc a b c, ?_⟩
  rw [← dataFrame_eq_or_ite a, ← complete_setRspFrame_of_idle _ hs]
  exact exec_datEnc_idle _ hs

/-- Settles O5: OP 4 selects FRM_DEC of A, and in IDLE it writes A, its fields and the parity fault, the status being
OK whatever the flags (R103). -/
theorem frmDecDecodesDataFrame : Obligations.FrmDecDecodesDataFrame := by
  intro a b c s hs
  refine ⟨decodeRequest_requestWord_frmDec a b c, ?_⟩
  have hidle : (s.loadDataFrame a).seq = .idle := (loadDataFrame_seq s a).trans hs
  rw [exec_frmDec_idle a hs, complete_eq_of_idle _ hidle, ← frameLow_setWidth, ← parityFault_eq_xor_decide]
  rfl

end Machine

end Sys2Proof

/-! SUPPORT. Phase 2 of a read beside FRM_DEC of its word, and what a step adds to the words this block has sent
(43_sequencer.md R113, R118, R129). -/

namespace Sys2Proof.Machine

/-! The end of a read leaves FRM_DEC's results (R103, R118). -/

/-- A decoded data frame and its completion write all ten result fields, so that none depends on what was there. -/
theorem results_complete_loadDataFrame (s : State) (f : Frame) (code : BitVec 2) :
    ((s.loadDataFrame f).complete code).results =
      (f, (frameLow f).setWidth 20, parityFault f, errorFlag f, code, true, true, true, true, true) := rfl

/-- Releasing the bus touches no result register. -/
theorem results_complete_releaseBus (s : State) (code : BitVec 2) :
    (s.releaseBus.complete code).results = (s.complete code).results := rfl

/-- In phase 2 of a read the block sends what TX2 holds. -/
theorem xferTx_rd2 {s : State} (hs : s.seq = .rd2) : s.xferTx = some s.tx2 := by
  simp [State.xferTx, hs]

/-- A step whose environment only acknowledges samples its word, no reset and no other traffic. -/
theorem sampleInputs_ackStep {s : State} {rx : Frame} {later : List EnvStep}
    (h : s.stimulus = ackStep rx :: later) :
    s.sampleInputs = { s with
      rspValid := false, xferAck := true, xferRx := rx, resetIn := false, stimulus := later } := by
  unfold State.sampleInputs
  rw [h]
  rfl

/-- The acknowledged step of phase 2 loads the word received, releases the bus and completes. -/
theorem step_rd2_ack {s : State} {rx : Frame} {later : List EnvStep} (hs : s.seq = .rd2)
    (hnop : s.tx2 = 0x4000#16) (h : s.stimulus = ackStep rx :: later) :
    step s = .next
      (((s.sampleInputs.recordExchange nopFrame).loadDataFrame rx).releaseBus.complete statusOk) := by
  have hin := sampleInputs_ackStep h
  have hseq : s.sampleInputs.seq = .rd2 := (sampleInputs_seq s).trans hs
  have hack : s.sampleInputs.xferAck = true := by rw [hin]
  have hreset : s.sampleInputs.resetIn = false := by rw [hin]
  have hrx : s.sampleInputs.xferRx = rx := by rw [hin]
  have hf : s.sampleInputs.fetch = .instr .wireNop s.sampleInputs :=
    fetch_rd2 hseq ((sampleInputs_tx2 s).trans hnop)
  calc step s = exec .wireNop s.sampleInputs := by simp [step, hreset, hf]
    _ = _ := exec_wireNop_eq_exchange _
    _ = _ := exchange_ack _ _ hseq hack
    _ = _ := by rw [recordExchange_xferRx, hrx]

/-- Settles O38: both meanings end by loading the same data frame with status OK, which writes every result field
(R118). -/
theorem readResultIsFrmDecOfPhaseTwoWord : Obligations.ReadResultIsFrmDecOfPhaseTwoWord := by
  intro s rx later hinv hs hstim
  have hnop : s.tx2 = 0x4000#16 := by
    obtain ⟨-, -, hnop⟩ := by simpa only [State.LatchesOk, hs] using hinv.latches
    exact hnop
  refine ⟨(xferTx_rd2 hs).trans (congrArg some hnop), _, _, step_rd2_ack hs hnop hstim,
    exec_frmDec_idle rx rfl, ?_, rfl⟩
  rw [results_complete_releaseBus, results_complete_loadDataFrame, results_complete_loadDataFrame]

/-! The words sent, by what the record gains (R52). -/

theorem sentWords_append (log log' : List BusEvent) :
    sentWords (log ++ log') = sentWords log ++ sentWords log' := List.flatMap_append

/-- The traffic of other devices is no word of this block. -/
@[simp] theorem sentWords_sampleInputs (s : State) : sentWords s.sampleInputs.busLog = sentWords s.busLog := by
  obtain hkept | hforeign := sampleInputs_busLog s
  · rw [hkept]
  · rw [hforeign]
    exact (sentWords_append _ _).trans (List.append_nil _)

theorem sentWords_recordExchange (s : State) (tx : Frame) :
    sentWords (s.recordExchange tx).busLog = sentWords s.busLog ++ [tx] :=
  sentWords_append _ _

@[simp] theorem xferTx_sampleInputs (s : State) : s.sampleInputs.xferTx = s.xferTx := by
  simp [State.xferTx]

/-- There is a word to exchange only outside IDLE. -/
theorem seq_ne_idle_of_xferTx {s : State} {tx : Frame} (h : s.xferTx = some tx) : s.seq ≠ .idle := by
  intro hi
  simp [State.xferTx, hi] at h

/-- From `s` to `t` this block has sent nothing, or exactly the word `s` had in progress, acknowledged (R129). -/
def State.SendsAtMostItsWord (s t : State) : Prop :=
  sentWords t.busLog = sentWords s.busLog ∨
    (s.xferAck = true ∧ ∃ tx, s.xferTx = some tx ∧ sentWords t.busLog = sentWords s.busLog ++ [tx])

/-- A reset ends the exchange in progress where it is acknowledged in that step, and starts none (R129, R167). -/
theorem applyReset_sendsAtMostItsWord (s : State) : s.SendsAtMostItsWord s.applyReset := by
  simp only [State.SendsAtMostItsWord, applyReset_busLog, State.recordReset]
  split
  · exact .inl rfl
  · next tx htx =>
    split
    · next hack => exact .inr ⟨hack, tx, htx, sentWords_append _ _⟩
    · exact .inl ((sentWords_append _ _).trans (List.append_nil _))

/-- An exchange of the word in progress, whatever follows it, sends at most that word. -/
theorem exchange_sendsAtMostItsWord {pos : Seq} {tx : Frame} {k : State → State} {s t : State}
    (h : s.exchange pos tx k = .next t) (htx : s.xferTx = some tx)
    (hk : ∀ u, (k u).busLog = u.busLog) : s.SendsAtMostItsWord t := by
  obtain ⟨-, ⟨hack, rfl⟩ | ⟨-, rfl⟩⟩ := exchange_cases h
  · exact .inr ⟨hack, tx, htx, by rw [hk, sentWords_recordExchange]⟩
  · exact .inl rfl

/-- The frame on the bus, decoded at its position, is run as the exchange of that same word (R63, R113). -/
theorem exec_frameOnBus_sendsAtMostItsWord {s t : State} {c : Code} {i : Instr}
    (hc : s.frameOnBus = some c) (hd : decode c = .ok i) (h : exec i s = .next t) :
    s.SendsAtMostItsWord t := by
  cases hs : s.seq with
  | idle => simp [State.frameOnBus, hs] at hc
  | rd1 =>
    obtain rfl : Code.readFirst s.tx1 = c := by simpa [State.frameOnBus, hs] using hc
    obtain ⟨hread, rfl⟩ : frameBit14 s.tx1 = true ∧ decodeCommand s.tx1 = i := by
      simpa [decode, ite_eq_iff] using hd
    rw [decodeCommand, if_pos hread, exec_wireReadCmd_eq_exchange, ← hread, packFrame_fields] at h
    exact exchange_sendsAtMostItsWord h (by simp [State.xferTx, hs]) fun _ => rfl
  | rd2 =>
    obtain rfl : Code.readSecond s.tx2 = c := by simpa [State.frameOnBus, hs] using hc
    obtain ⟨hnop, rfl⟩ : s.tx2 = nopFrame ∧ Instr.wireNop = i := by
      simpa [decode, nopFrame, ite_eq_iff] using hd
    rw [exec_wireNop_eq_exchange] at h
    exact exchange_sendsAtMostItsWord h (hnop ▸ xferTx_rd2 hs) fun _ => rfl
  | wr1 =>
    obtain rfl : Code.writeFirst s.tx1 = c := by simpa [State.frameOnBus, hs] using hc
    obtain ⟨hwrite, rfl⟩ : frameBit14 s.tx1 = false ∧ decodeCommand s.tx1 = i := by
      simpa [decode, ite_eq_iff] using hd
    rw [decodeCommand, if_neg (by simp [hwrite]), exec_wireWriteCmd_eq_exchange, ← hwrite,
      packFrame_fields] at h
    exact exchange_sendsAtMostItsWord h (by simp [State.xferTx, hs]) fun _ => rfl
  | wr2 =>
    obtain rfl : Code.writeSecond s.tx2 = c := by simpa [State.frameOnBus, hs] using hc
    obtain rfl : decodeData s.tx2 = i := by simpa [decode] using hd
    rw [decodeData, exec_wireData_eq_exchange, packFrame_fields] at h
    exact exchange_sendsAtMostItsWord h (by simp [State.xferTx, hs]) fun _ => rfl

/-- Writes of the result registers leave the record of the bus as it was. -/
theorem ResultWrites.busLog_eq {s t : State} (h : ResultWrites s t) : t.busLog = s.busLog := by
  induction h with
  | none => rfl
  | frame _ _ ih => exact ih
  | val _ _ ih => exact ih
  | pe _ _ ih => exact ih
  | ef _ _ ih => exact ih

/-- In IDLE no meaning puts an event on the bus, the acceptance of a transaction included. -/
theorem ExecEffect.busLog_eq_of_idle {s t : State} (h : ExecEffect s t) (hi : s.seq = .idle) :
    t.busLog = s.busLog := by
  cases h with
  | held hb => exact absurd hi hb
  | completed _ _ hw => exact hw.busLog_eq
  | started => rfl
  | advanced _ _ hs => simp [hi] at hs
  | ended _ hs => simp [hi] at hs
  | expanded => rfl

/-- All a step can send: the word in progress, once, acknowledged in that step (R129). -/
theorem step_sendsAtMostItsWord {s t : State} (h : step s = .next t) :
    s.sampleInputs.SendsAtMostItsWord t := by
  obtain ⟨-, rfl⟩ | ⟨-, -, rfl⟩ | ⟨-, i, u, hf, he⟩ := step_cases h
  · exact applyReset_sendsAtMostItsWord _
  · exact .inl rfl
  · obtain ⟨hi, line, rest, -, -, rfl⟩ | ⟨-, c, hc, hd, rfl⟩ := fetch_cases hf
    · exact .inl (congrArg sentWords ((exec_effect he).busLog_eq_of_idle hi))
    · exact exec_frameOnBus_sendsAtMostItsWord hc hd he

/-! What raises xfer_req (R129). -/

/-- An operation whose effect leaves xfer_req alone leaves it alone, performed or held. -/
theorem perform_xferReq {f : State → State} {s t : State} (h : s.perform f = .next t)
    (hf : (f s).xferReq = s.xferReq) : t.xferReq = s.xferReq := by
  obtain ⟨-, rfl⟩ | ⟨-, rfl⟩ := perform_cases h
  · exact hf
  · rfl

/-- No exchange runs in IDLE. -/
theorem exchange_idle_ne_next {pos : Seq} {tx : Frame} {k : State → State} {s t : State}
    (hs : s.seq = .idle) (hp : pos ≠ .idle) : s.exchange pos tx k ≠ .next t := by
  intro h
  obtain ⟨hpos, -⟩ := exchange_cases h
  exact hp (hpos.symm.trans hs)

/-- In IDLE every instruction but RD_REG and WR_REG leaves xfer_req as it is (R129). -/
theorem exec_idle_xferReq {i : Instr} {s t : State} (h : exec i s = .next t) (hs : s.seq = .idle) :
    (∃ addr, i = .rdReg addr) ∨ (∃ addr data, i = .wrReg addr data) ∨ t.xferReq = s.xferReq := by
  cases i with
  | rdReg addr => exact .inl ⟨addr, rfl⟩
  | wrReg addr data => exact .inr (.inl ⟨addr, data, rfl⟩)
  | parGen | parChk | cmdEnc | datEnc | frmDec | angScl =>
    simp only [exec, execParGen, execParChk, execCmdEnc, execDatEnc, execFrmDec, execAngScl] at h
    exact .inr (.inr (perform_xferReq h rfl))
  | reservedA | reservedB | reservedC | reservedD | reservedE | reservedF =>
    exact .inr (.inr (perform_xferReq (f := State.complete statusReservedOp) h rfl))
  | fldGet | fldSet =>
    simp only [exec, execFldGet, execFldSet] at h
    exact .inr (.inr (perform_xferReq h (by split <;> rfl)))
  | wireReadCmd | wireWriteCmd | wireNop | wireData =>
    simp only [exec, execWireReadCmd, execWireWriteCmd, execWireNop, execWireData] at h
    exact absurd h (exchange_idle_ne_next hs (by decide))
  | readAngle | writeZpos | writeSettings1 | writeSettings2 | readRegister | writeRegister =>
    obtain rfl := Host.Outcome.next.inj h
    exact .inr (.inr rfl)

/-- A step from IDLE that raises xfer_req runs RD_REG or WR_REG of the line presented (R129). -/
theorem step_idle_raises_xferReq {s t : State} (h : step s = .next t) (hs : s.seq = .idle)
    (hlow : s.xferReq = false) (hup : t.xferReq = true) :
    ∃ line rest i, s.program = line :: rest ∧ line.issue s.sampleInputs = i ∧
      ((∃ addr, i = .rdReg addr) ∨ (∃ addr data, i = .wrReg addr data)) := by
  obtain ⟨-, rfl⟩ | ⟨-, -, rfl⟩ | ⟨-, i, u, hf, he⟩ := step_cases h
  · simp at hup
  · simp [hlow] at hup
  · obtain ⟨hi, line, rest, hp, hissue, rfl⟩ | ⟨hb, -⟩ := fetch_cases hf
    · refine ⟨line, rest, i, (sampleInputs_program s).symm.trans hp, hissue, ?_⟩
      obtain hrd | hwr | hkept := exec_idle_xferReq he hi
      · exact .inl hrd
      · exact .inr hwr
      · simp [hup, hlow] at hkept
    · exact absurd ((sampleInputs_seq s).trans hs) hb

/-- Settles O51: the only word a step sends is the one in progress, acknowledged (R113), and in IDLE only the two
transactions raise xfer_req (R129). -/
theorem onlyTransactionsExchange : Obligations.OnlyTransactionsExchange := by
  intro s t h
  refine ⟨?_, step_idle_raises_xferReq h⟩
  obtain hkept | ⟨hack, tx, htx, hsent⟩ := step_sendsAtMostItsWord h
  · exact .inl (hkept.trans (sentWords_sampleInputs s))
  · rw [xferTx_sampleInputs] at htx
    rw [sentWords_sampleInputs] at hsent
    exact .inr ⟨seq_ne_idle_of_xferTx htx, hack, tx, htx, hsent⟩

end Sys2Proof.Machine

/-! SUPPORT. The scaled angle as a number of the request's operand, and ANG_SCL in IDLE (44_angle_and_facade.md
R131). -/

namespace Sys2Proof

/-- Scaling A[13:0] is the product with 45 of A's remainder by 2^14, zero-extended to RSP_VAL (R131). -/
theorem scaleAngle_frameLow (a : Frame) :
    scaleAngle (frameLow a) = BitVec.ofNat 20 (a.toNat % 16384 * 45) := by
  have hlow : (frameLow a).toNat = a.toNat % 16384 := BitVec.extractLsb'_toNat ..
  refine BitVec.eq_of_toNat_eq ?_
  simp [scaleAngle, hlow]

namespace Machine

theorem decodeRequest_requestWord_angScl (a b : Frame) (c : BitVec 10) :
    decodeRequest (requestWord 7 a b c) = .angScl (frameLow a) := by
  simp [decodeRequest]

theorem exec_angScl_idle (raw : Field14) {s : State} (hs : s.seq = .idle) :
    exec (.angScl raw) s = .next ((s.setRspVal (scaleAngle raw)).complete statusOk) := by
  simp only [exec, execAngScl, perform_idle _ hs]

/-- Settles O8: OP 7 selects ANG_SCL of A[13:0] whatever B and C, and in IDLE it writes that number times 45, SEQ
staying IDLE at the completion (R131). -/
theorem angSclScalesAngle : Obligations.AngSclScalesAngle := by
  intro a b c s hs
  refine ⟨decodeRequest_requestWord_angScl a b c, ?_⟩
  have hidle (v : Value) : (s.setRspVal v).seq = .idle := (setRspVal_seq s v).trans hs
  rw [← scaleAngle_frameLow a, ← frameLow, exec_angScl_idle _ hs, complete_eq_of_idle statusOk (hidle _)]
  rfl

end Machine

end Sys2Proof

/-! SUPPORT. A request word and a descriptor are their fields, and decoding inverts encoding (30_encoding.md sections
1, 2 and 5). -/

namespace Sys2Proof

/-! The fields of a request word as numbers (R69). -/

theorem requestOp_toNat (w : Request) : (requestOp w).toNat = w.toNat % 2 ^ 4 := by
  simp [requestOp]

theorem requestA_toNat (w : Request) : (requestA w).toNat = w.toNat / 2 ^ 4 % 2 ^ 16 := by
  simp [requestA, Nat.shiftRight_eq_div_pow]

theorem requestB_toNat (w : Request) : (requestB w).toNat = w.toNat / 2 ^ 20 % 2 ^ 16 := by
  simp [requestB, Nat.shiftRight_eq_div_pow]

theorem requestC_toNat (w : Request) : (requestC w).toNat = w.toNat / 2 ^ 36 := by
  have hw := w.isLt
  rw [requestC, BitVec.extractLsb'_toNat, Nat.shiftRight_eq_div_pow]
  omega

/-- A word is the sum of its fields at their places (R69). -/
theorem request_toNat_eq_fields (w : Request) :
    w.toNat = (requestC w).toNat * 2 ^ 36 + (requestB w).toNat * 2 ^ 20 + (requestA w).toNat * 2 ^ 4 +
      (requestOp w).toNat := by
  rw [requestOp_toNat, requestA_toNat, requestB_toNat, requestC_toNat]
  omega

theorem requestWord_toNat (op : BitVec 4) (a b : Frame) (c : BitVec 10) :
    (requestWord op a b c).toNat = c.toNat * 2 ^ 36 + b.toNat * 2 ^ 20 + a.toNat * 2 ^ 4 + op.toNat := by
  simpa using request_toNat_eq_fields (requestWord op a b c)

/-- A request word is built from its fields (R69, R78). -/
theorem requestWord_fields (w : Request) :
    requestWord (requestOp w) (requestA w) (requestB w) (requestC w) = w :=
  BitVec.eq_of_toNat_eq ((requestWord_toNat ..).trans (request_toNat_eq_fields w).symm)

/-- Settles O23: the four fields are quotients and remainders of the word, and the word is their sum (R69). -/
theorem requestWordLayout : Obligations.RequestWordLayout :=
  ⟨requestWord_toNat, fun w => ⟨requestOp_toNat w, requestA_toNat w, requestB_toNat w, requestC_toNat w⟩⟩

/-! The rows of a request word, beside those of the single operations (R70, R71). -/

theorem decodeRequest_requestWord_rdReg (a b : Frame) (c : BitVec 10) :
    decodeRequest (requestWord 8 a b c) = .rdReg (frameLow a) := by
  simp [decodeRequest]

theorem decodeRequest_requestWord_wrReg (a b : Frame) (c : BitVec 10) :
    decodeRequest (requestWord 9 a b c) = .wrReg (frameLow a) (frameLow b) := by
  simp [decodeRequest]

@[simp] theorem frameLow_setWidth_field (x : Field14) : frameLow (x.setWidth 16) = x := by
  unfold frameLow
  ext i hi
  simp [BitVec.getLsbD_eq_getElem, hi, show i < 16 by omega]

/-- Decoding a word an instruction encodes to gives the instruction back, the operand bits included (R70, R71). -/
theorem decode_of_encode {i : Instr} {c : Code} (h : encode i = some c) : decode c = .ok i := by
  cases i with
  | parGen | parChk | cmdEnc | datEnc | frmDec | fldGet | fldSet | angScl | rdReg | wrReg | reservedA
  | reservedB | reservedC | reservedD | reservedE | reservedF =>
    obtain rfl := Option.some.inj h
    simp [decode, decodeRequest]
  | wireReadCmd addr parc | wireWriteCmd addr parc =>
    obtain rfl := Option.some.inj h
    simp [decode, decodeCommand]
  | wireNop =>
    obtain rfl := Option.some.inj h
    rfl
  | wireData data ef pard =>
    obtain rfl := Option.some.inj h
    simp [decode, decodeData]
  | readAngle | writeZpos | writeSettings1 | writeSettings2 | readRegister | writeRegister => cases h

/-- Settles O20: the decoder reads back every field the encoder packs, and the six pseudo-operations are exactly the
instructions with no word (R77). -/
theorem decodeInvertsEncode : Obligations.DecodeInvertsEncode := by
  intro i _
  refine ⟨fun c => decode_of_encode, ?_⟩
  cases i <;> simp [encode]

/-! The word of a decoded instruction: the same word up to the operand bits its row ignores (R71, R80). -/

theorem cOfDesc_descOfC (c : BitVec 10) : cOfDesc (descOfC c) = c := by
  ext i hi
  rcases (by omega : i < 4 ∨ (4 ≤ i ∧ i < 9) ∨ i = 9) with h | h | rfl
  · simp [cOfDesc, descOfC, h, hi, show i < 9 by omega, BitVec.getLsbD_eq_getElem]
  · simp [cOfDesc, descOfC, hi, h.2, show ¬ i < 4 by omega, show i - 4 < 5 by omega,
      show 4 + (i - 4) = i by omega, BitVec.getLsbD_eq_getElem]
  · simp [cOfDesc, descOfC]

/-- A 14-bit operand zero-extended is the operand under its row's mask. -/
theorem frameLow_setWidth_frame (a : Frame) : (frameLow a).setWidth 16 = a &&& 0x3FFF#16 := by
  rw [frameLow_setWidth, BitVec.setWidth_eq]

/-- Every bit of a full-width operand is read. -/
theorem and_fullMask (a : Frame) : a &&& 0xFFFF#16 = a := BitVec.and_allOnes

theorem and_fullDescMask (c : BitVec 10) : c &&& 0x3FF#10 = c := BitVec.and_allOnes

/-- RW of CMD_ENC as an operand is B under its row's mask. -/
theorem ofBool_bit0_setWidth (b : Frame) : (BitVec.ofBool b[0]).setWidth 16 = b &&& 1#16 :=
  BitVec.and_one_eq_setWidth_ofBool_getLsbD.symm

theorem opcode_cases (op : BitVec 4) :
    op = 0 ∨ op = 1 ∨ op = 2 ∨ op = 3 ∨ op = 4 ∨ op = 5 ∨ op = 6 ∨ op = 7 ∨
    op = 8 ∨ op = 9 ∨ op = 10 ∨ op = 11 ∨ op = 12 ∨ op = 13 ∨ op = 14 ∨ op = 15 := by
  revert op
  decide

/-- The word of a request decoded keeps OP and the operand bits of its row. -/
theorem encode_decodeRequest_requestWord (op : BitVec 4) (a b : Frame) (c : BitVec 10) :
    encode (decodeRequest (requestWord op a b c)) = some (.request
      (requestWord op (a &&& (Machine.operandMask op).1) (b &&& (Machine.operandMask op).2.1)
        (c &&& (Machine.operandMask op).2.2))) := by
  obtain rfl | rfl | rfl | rfl | rfl | rfl | rfl | rfl | rfl | rfl | rfl | rfl | rfl | rfl | rfl | rfl :=
    opcode_cases op <;>
  simp [decodeRequest, encode, Machine.operandMask, frameLow_setWidth_frame, and_fullMask, and_fullDescMask,
    cOfDesc_descOfC, ofBool_bit0_setWidth]

/-- Settles O22: decoding the word the instruction encodes to is decoding the word with the ignored bits cleared. -/
theorem ignoredOperandBitsNeverMatter : Obligations.IgnoredOperandBitsNeverMatter := fun op a b c =>
  (Except.ok.inj (decode_of_encode (encode_decodeRequest_requestWord op a b c))).symm

/-- A command frame is the word its instruction encodes to, at the position of its RW bit (R64, R113). -/
theorem encode_decodeCommand (w : Frame) :
    encode (decodeCommand w) = some (if frameBit14 w then .readFirst w else .writeFirst w) := by
  have hw := packFrame_fields w
  unfold decodeCommand
  cases hrw : frameBit14 w <;> simpa [encode, hrw] using hw

/-- A word that decodes at its position of a transaction is the word of the instruction read (R63, R113). -/
theorem encode_of_decode_frame {w : Frame} {i : Instr} {c : Code}
    (hc : c ∈ [Code.readFirst w, .readSecond w, .writeFirst w, .writeSecond w]) (h : decode c = .ok i) :
    encode i = some c := by
  simp only [List.mem_cons, List.not_mem_nil, or_false] at hc
  obtain rfl | rfl | rfl | rfl := hc
  · obtain ⟨hread, rfl⟩ : frameBit14 w = true ∧ decodeCommand w = i := by simpa [decode, ite_eq_iff] using h
    rw [encode_decodeCommand, if_pos hread]
  · obtain ⟨rfl, rfl⟩ : w = 0x4000#16 ∧ Instr.wireNop = i := by simpa [decode, ite_eq_iff] using h
    rfl
  · obtain ⟨hwrite, rfl⟩ : frameBit14 w = false ∧ decodeCommand w = i := by
      simpa [decode, ite_eq_iff] using h
    rw [encode_decodeCommand, if_neg (Bool.eq_false_iff.mp hwrite)]
  · obtain rfl : decodeData w = i := by simpa [decode] using h
    rw [decodeData, encode, packFrame_fields]

/-- Settles O21: a frame is its three fields, and a request word's fields are kept but for the bits its row masks
off. -/
theorem encodeInvertsDecode : Obligations.EncodeInvertsDecode := by
  refine ⟨fun w i c hc h => encode_of_decode_frame hc h, fun w => ?_⟩
  rw [← encode_decodeRequest_requestWord, requestWord_fields]

end Sys2Proof

/-! SUPPORT. Counting the 1 bits of a frame: the parity laws of 41_parity.md and the fields of the frames the block
builds (42_frame_codec.md section 2). -/

namespace Sys2Proof

/-! The count of 1 bits below a position. -/

/-- The count reads only the bits below its bound. -/
theorem onesBelow_congr {w w' : Nat} {v : BitVec w} {v' : BitVec w'} {n : Nat}
    (h : ∀ i < n, v.getLsbD i = v'.getLsbD i) : onesBelow v n = onesBelow v' n := by
  induction n with
  | zero => rfl
  | succ n ih => simp only [onesBelow, ih fun i hi => h i (by omega), h n (by omega)]

/-- Modulo 2 the count of an exclusive or is the sum of the counts. -/
theorem onesBelow_xor_mod_two {w : Nat} (v e : BitVec w) (n : Nat) :
    onesBelow (v ^^^ e) n % 2 = (onesBelow v n + onesBelow e n) % 2 := by
  induction n with
  | zero => rfl
  | succ n ih =>
    simp only [onesBelow, BitVec.getLsbD_xor]
    cases v.getLsbD n <;> cases e.getLsbD n <;> simp <;> omega

/-- One more bit turns an odd count into an even one and back. -/
theorem decide_odd_xor (k : Nat) (b : Bool) :
    (decide (k % 2 = 1) ^^ b) = decide ((k + b.toNat) % 2 = 1) := by
  cases b
  · simp
  · rw [Bool.xor_true, ← decide_not, decide_eq_decide, Bool.toNat_true]
    omega

/-- The exclusive or of the bits below a position says whether their count is odd. -/
theorem foldl_xor_range_eq_decide {w : Nat} (v : BitVec w) (n : Nat) :
    (List.range n).foldl (fun acc i => acc ^^ v.getLsbD i) false = decide (onesBelow v n % 2 = 1) := by
  induction n with
  | zero => rfl
  | succ n ih =>
    rw [List.range_succ, List.foldl_append, ih]
    exact decide_odd_xor _ _

/-! The parity bit and the parity fault of a frame (R93, R96). -/

/-- P is 1 when the count of the low 15 bits is even (R93). -/
theorem parityBit_eq_true_iff (f : Frame) : parityBit f = true ↔ onesBelow f 15 % 2 = 0 := by
  have hlow : popcount (f.extractLsb' 0 15) = onesBelow f 15 :=
    onesBelow_congr fun i hi => by simp [hi]
  simp [parityBit, hlow]

/-- P does not read bit 15 (R93). -/
theorem parityBit_congr {f g : Frame} (h : ∀ i < 15, f.getLsbD i = g.getLsbD i) :
    parityBit f = parityBit g := by
  rw [Bool.eq_iff_iff, parityBit_eq_true_iff, parityBit_eq_true_iff, onesBelow_congr h]

theorem popcount_eq_low_add_bit15 (f : Frame) : popcount f = onesBelow f 15 + (frameBit15 f).toNat := rfl

/-- The parity fault is a count of 1 bits that is not odd (R96). -/
theorem parityFault_eq_true_iff (f : Frame) : parityFault f = true ↔ popcount f % 2 = 0 := by
  have hp := parityBit_eq_true_iff f
  rw [popcount_eq_low_add_bit15, parityFault]
  cases frameBit15 f <;> cases hP : parityBit f <;> simp [hP] at hp ⊢ <;> omega

/-- A frame whose bit 15 is its P has an odd number of 1 bits (R97, R105). -/
theorem oddFrame_of_bit15_eq_parityBit {f : Frame} (h : frameBit15 f = parityBit f) : Machine.OddFrame f := by
  have hno : ¬ popcount f % 2 = 0 := by
    rw [← parityFault_eq_true_iff, parityFault, h]
    simp
  unfold Machine.OddFrame
  omega

theorem parityFault_of_oddFrame {f : Frame} (h : Machine.OddFrame f) : parityFault f = false := by
  rw [Bool.eq_false_iff, ne_eq, parityFault_eq_true_iff]
  unfold Machine.OddFrame at h
  omega

/-! Inserting the parity. -/

/-- Inserting the parity keeps the low 15 bits (R95). -/
theorem withParity_getLsbD_of_lt (lo : Frame) {i : Nat} (hi : i < 15) :
    (withParity lo).getLsbD i = lo.getLsbD i := by
  have hmask : (0x7FFF#16).getLsbD i = true := by interval_cases i <;> rfl
  simp [withParity, hi, hmask]

/-- Bit 15 becomes P (R95). -/
theorem frameBit15_withParity (lo : Frame) : frameBit15 (withParity lo) = parityBit lo := by
  simp [frameBit15, withParity]

theorem frameBit14_withParity (lo : Frame) : frameBit14 (withParity lo) = frameBit14 lo :=
  withParity_getLsbD_of_lt lo (by decide)

/-- Two frames with the same low 15 bits have the same frame with the parity inserted (R97). -/
theorem withParity_congr {f g : Frame} (h : ∀ i < 15, f.getLsbD i = g.getLsbD i) :
    withParity f = withParity g := by
  refine BitVec.eq_of_getLsbD_eq fun i hi => ?_
  rcases (by omega : i < 15 ∨ i = 15) with hlow | rfl
  · rw [withParity_getLsbD_of_lt f hlow, withParity_getLsbD_of_lt g hlow, h i hlow]
  · exact (frameBit15_withParity f).trans ((parityBit_congr h).trans (frameBit15_withParity g).symm)

theorem frameLow_withParity (lo : Frame) : frameLow (withParity lo) = frameLow lo := by
  refine BitVec.eq_of_getLsbD_eq fun i hi => ?_
  simp only [frameLow, BitVec.getLsbD_extractLsb', Nat.zero_add,
    withParity_getLsbD_of_lt lo (show i < 15 by omega)]

/-- Every frame with its parity inserted has an odd number of 1 bits (R97, R105). -/
theorem oddFrame_withParity (lo : Frame) : Machine.OddFrame (withParity lo) :=
  oddFrame_of_bit15_eq_parityBit <| (frameBit15_withParity lo).trans
    (parityBit_congr fun _ hi => (withParity_getLsbD_of_lt lo hi).symm)

/-! The fields of the frames the block builds (R64, R66). -/

theorem frameLow_commandFrame (addr : Field14) (rw : Bool) : frameLow (commandFrame addr rw) = addr := by
  rw [commandFrame, frameLow_withParity]
  ext i hi
  simp [frameLow, BitVec.getLsbD_eq_getElem, hi, show i < 16 by omega]

theorem frameBit14_commandFrame (addr : Field14) (rw : Bool) : frameBit14 (commandFrame addr rw) = rw := by
  rw [commandFrame, frameBit14_withParity]
  simp [frameBit14]

theorem oddFrame_commandFrame (addr : Field14) (rw : Bool) : Machine.OddFrame (commandFrame addr rw) :=
  oddFrame_withParity _

/-- A data frame with EF = 0 is laid out as a write command frame of its data (R63, R66). -/
theorem dataFrame_eq_commandFrame (data : Field14) : dataFrame data = commandFrame data false := by
  simp [dataFrame, commandFrame]

/-- Flipping bit 15 leaves the low 15 bits. -/
theorem xor_bit15_getLsbD_of_lt (f : Frame) {i : Nat} (hi : i < 15) :
    (f ^^^ 0x8000#16).getLsbD i = f.getLsbD i := by
  have hbit : (0x8000#16).getLsbD i = false := by interval_cases i <;> rfl
  rw [BitVec.getLsbD_xor, hbit, Bool.xor_false]

/-- Settles O27: both sides say whether the count of bits 14:0 is even (R93), and none of them is bit 15. -/
theorem parityIsFifteenInputXnor : Obligations.ParityIsFifteenInputXnor := by
  intro f
  refine ⟨?_, parityBit_congr fun i hi => xor_bit15_getLsbD_of_lt f hi⟩
  rw [foldl_xor_range_eq_decide, Bool.eq_iff_iff, parityBit_eq_true_iff]
  simp

namespace Machine

/-- Settles O24: P makes the count odd (R97), and neither P nor the frame reads A's bit 15 (R95). -/
theorem generatedFramesHaveOddParity : Obligations.GeneratedFramesHaveOddParity := by
  intro a s hs
  have hlow (i : Nat) (hi : i < 15) : (a ^^^ 0x8000#16).getLsbD i = a.getLsbD i := xor_bit15_getLsbD_of_lt a hi
  refine ⟨_, exec_parGen_idle a hs, oddFrame_withParity a, ?_, ?_⟩
  · refine BitVec.eq_of_getLsbD_eq fun i hi => ?_
    simp [hi, withParity_getLsbD_of_lt a hi]
  · rw [exec_parGen_idle _ hs, parityBit_congr hlow, withParity_congr hlow]

/-- Settles O25: RSP_PE is the parity fault (R96), which is the even count (R98). -/
theorem parityFaultIffEvenPopcount : Obligations.ParityFaultIffEvenPopcount := fun a _ hs =>
  ⟨_, exec_parChk_idle a hs, parityFault_eq_true_iff a⟩

/-- Settles O26: the count of the changed frame is the sum of the two counts modulo 2, and the first is odd (R98). -/
theorem oddBitErrorsAreDetected : Obligations.OddBitErrorsAreDetected := by
  intro a e s t hs hexec hpass
  rw [exec_parChk_idle a hs] at hexec
  obtain rfl := Host.Outcome.next.inj hexec
  have hodd : ¬ popcount a % 2 = 0 := by
    rw [← parityFault_eq_true_iff]
    exact Bool.eq_false_iff.mp hpass
  have hsum : popcount (a ^^^ e) % 2 = (popcount a + popcount e) % 2 := onesBelow_xor_mod_two a e 16
  refine ⟨_, exec_parChk_idle _ hs, (parityFault_eq_true_iff _).trans ?_⟩
  omega

/-- What FRM_DEC leaves of a frame the block builds: its low field, bit 14 and no parity fault (R103, R106, R107). -/
theorem exec_frmDec_commandFrame (addr : Field14) (rw : Bool) {s : State} (hs : s.seq = .idle) :
    ∃ u, exec (.frmDec (commandFrame addr rw)) s = .next u ∧ u.rspVal.toNat = addr.toNat ∧ u.rspEf = rw ∧
      u.rspPe = false ∧ u.rspErr = 0 := by
  refine ⟨_, exec_frmDec_idle _ hs, ?_, frameBit14_commandFrame addr rw,
    parityFault_of_oddFrame (oddFrame_commandFrame addr rw), rfl⟩
  have hlt := addr.isLt
  simp only [complete_rspVal, loadDataFrame_rspVal, frameLow_commandFrame, BitVec.toNat_setWidth]
  omega

/-- Settles O28: the command frame's fields are its operands, and FRM_DEC reads them back (R64, R105, R106). -/
theorem commandFrameFields : Obligations.CommandFrameFields := by
  intro addr rw s hs
  obtain ⟨u, hu, hval, hef, hpe, -⟩ :=
    exec_frmDec_commandFrame addr rw (s := (s.setRspFrame (commandFrame addr rw)).complete statusOk) rfl
  exact ⟨_, u, exec_cmdEnc_idle addr rw hs, frameLow_commandFrame addr rw, frameBit14_commandFrame addr rw,
    oddFrame_commandFrame addr rw, hu, hval, hef, hpe⟩

/-- Settles O29: the data frame is laid out as a command frame with bit 14 clear, and FRM_DEC reads it back (R107). -/
theorem decodeOfEncodedData : Obligations.DecodeOfEncodedData := by
  intro d s hs
  have henc := exec_datEnc_idle d hs
  rw [dataFrame_eq_commandFrame] at henc
  obtain ⟨u, hu, hresults⟩ :=
    exec_frmDec_commandFrame d false (s := (s.setRspFrame (commandFrame d false)).complete statusOk) rfl
  exact ⟨_, u, henc, hu, hresults⟩

end Machine

end Sys2Proof

/-! SUPPORT. The bits of the field read and of the field replaced, and the round trips of FLD_GET and FLD_SET
(40_bitfield_codec.md section 2); the range of the scaled angle (44_angle_and_facade.md section 1). -/

namespace Sys2Proof

/-! The bits of a mask, of the backing value and of the two field operations. -/

theorem lowMask_getLsbD (w n : Nat) : (lowMask w).getLsbD n = (decide (n < 16) && decide (n < w)) := by
  rw [lowMask, BitVec.getLsbD_ofNat, Nat.testBit_two_pow_sub_one]

/-- The backing value is A up to the backing width (R83, R86). -/
theorem FieldDesc.raw_getLsbD (d : FieldDesc) (a : Frame) (n : Nat) :
    (d.raw a).getLsbD n = (decide (n < d.backing) && a.getLsbD n) := by
  unfold FieldDesc.raw FieldDesc.backing
  split
  · by_cases hn : n < 8
    · simp [hn, show n < 16 by omega]
    · simp [hn]
  · by_cases hn : n < 16
    · simp [hn]
    · simp [hn, BitVec.getLsbD_of_ge a n (by omega)]

/-- The field read holds the backing value's bits from OFF up, as many as the field is wide (R83). -/
theorem FieldDesc.extract_getLsbD (d : FieldDesc) (a : Frame) (n : Nat) :
    (d.extract a).getLsbD n = (decide (n < d.wid.toNat) && (d.raw a).getLsbD (d.off.toNat + n)) := by
  rw [FieldDesc.extract, BitVec.getLsbD_and, BitVec.getLsbD_ushiftRight, lowMask_getLsbD]
  by_cases hn : n < 16
  · simp [hn, Bool.and_comm]
  · simp [hn, BitVec.getLsbD_of_ge (d.raw a) (d.off.toNat + n) (by omega)]

/-- The replaced value, bit by bit: what the mask leaves of the backing value, and the value put in place. -/
theorem FieldDesc.insert_getLsbD (d : FieldDesc) (a b : Frame) {n : Nat} (hn : n < 16) :
    (d.insert a b).getLsbD n =
      if n < d.off.toNat then (d.raw a).getLsbD n
      else if n - d.off.toNat < d.wid.toNat then b.getLsbD (n - d.off.toNat) else (d.raw a).getLsbD n := by
  simp only [FieldDesc.insert, BitVec.getLsbD_or, BitVec.getLsbD_and, BitVec.getLsbD_not,
    BitVec.getLsbD_shiftLeft, lowMask_getLsbD]
  have hin : n - d.off.toNat < 16 := by omega
  split
  case isTrue hbelow => simp [hn, hbelow]
  case isFalse hnot =>
    split
    case isTrue hfield => simp [hn, hnot, hin, hfield]
    case isFalse habove => simp [hn, hnot, hin, habove]

/-- Inside its field the replaced value holds `b`'s bits (R84). -/
theorem FieldDesc.insert_getLsbD_field (d : FieldDesc) (a b : Frame) {n : Nat} (hn : d.off.toNat + n < 16)
    (hfield : n < d.wid.toNat) : (d.insert a b).getLsbD (d.off.toNat + n) = b.getLsbD n := by
  rw [d.insert_getLsbD a b hn, if_neg (by omega), if_pos (by omega), Nat.add_sub_cancel_left]

/-- Outside its field the replaced value holds the backing value's bits (R84, R85). -/
theorem FieldDesc.insert_getLsbD_kept (d : FieldDesc) (a b : Frame) {n : Nat}
    (hout : n < d.off.toNat ∨ d.off.toNat + d.wid.toNat ≤ n) :
    (d.insert a b).getLsbD n = (d.raw a).getLsbD n := by
  by_cases hn : n < 16
  · rw [d.insert_getLsbD a b hn]
    rcases hout with hbelow | habove
    · rw [if_pos hbelow]
    · rw [if_neg (by omega), if_neg (by omega)]
  · rw [BitVec.getLsbD_of_ge _ n (by omega), BitVec.getLsbD_of_ge _ n (by omega)]

/-! The round trips. A field that fits the backing width fits the frame. -/

theorem FieldDesc.backing_le (d : FieldDesc) : d.backing ≤ 16 := by
  unfold FieldDesc.backing
  split <;> omega

/-- The backing value of a replaced value is that value: it stays in the backing width (R86). -/
theorem FieldDesc.raw_insert {d : FieldDesc} (a b : Frame) (hfit : d.off.toNat + d.wid.toNat ≤ d.backing) :
    d.raw (d.insert a b) = d.insert a b := by
  refine BitVec.eq_of_getLsbD_eq fun n _ => ?_
  rw [d.raw_getLsbD]
  by_cases hn : n < d.backing
  · simp [hn]
  · rw [d.insert_getLsbD_kept a b (.inr (by omega)), d.raw_getLsbD]
    simp [hn]

/-- Reading back a replaced field gives the value put there, masked to the width. -/
theorem FieldDesc.extract_insert {d : FieldDesc} (a b : Frame)
    (hfit : d.off.toNat + d.wid.toNat ≤ d.backing) : d.extract (d.insert a b) = b &&& lowMask d.wid.toNat := by
  have hbacking := d.backing_le
  refine BitVec.eq_of_getLsbD_eq fun n hn => ?_
  rw [d.extract_getLsbD, d.raw_insert a b hfit, BitVec.getLsbD_and, lowMask_getLsbD]
  by_cases hfield : n < d.wid.toNat
  · rw [d.insert_getLsbD_field a b (by omega) hfield]
    simp [hn, hfield]
  · simp [hfield]

/-- Putting a value's own field back gives its backing value. -/
theorem FieldDesc.insert_extract (d : FieldDesc) (a : Frame) : d.insert a (d.extract a) = d.raw a := by
  refine BitVec.eq_of_getLsbD_eq fun n hn => ?_
  by_cases hout : n < d.off.toNat ∨ d.off.toNat + d.wid.toNat ≤ n
  · exact d.insert_getLsbD_kept a _ hout
  · obtain ⟨k, rfl⟩ : ∃ k, n = d.off.toNat + k := ⟨n - d.off.toNat, by omega⟩
    have hfield : k < d.wid.toNat := by omega
    rw [d.insert_getLsbD_field a _ hn hfield, d.extract_getLsbD]
    simp [hfield]

/-- A field value survives the 20 bits of RSP_VAL on its way back into a 16-bit operand. -/
theorem setWidth_value_setWidth_frame (f : Frame) : (f.setWidth 20).setWidth 16 = f := by
  refine BitVec.eq_of_toNat_eq ?_
  have hf := f.isLt
  simp only [BitVec.toNat_setWidth]
  omega

theorem setWidth_value_toNat (f : Frame) : (f.setWidth 20).toNat = f.toNat := by
  have hf := f.isLt
  rw [BitVec.toNat_setWidth]
  omega

/-- The scaled angle as a number: the product fits RSP_VAL (R131, R133). -/
theorem scaleAngle_toNat (raw : Field14) : (scaleAngle raw).toNat = raw.toNat * 45 := by
  have hraw := raw.isLt
  rw [scaleAngle, BitVec.toNat_mul, BitVec.toNat_setWidth, BitVec.toNat_ofNat]
  omega

namespace Machine

theorem exec_fldGet_legal (a : Frame) {d : FieldDesc} (hwid : 1 ≤ d.wid.toNat)
    (hfit : d.off.toNat + d.wid.toNat ≤ d.backing) {s : State} (hs : s.seq = .idle) :
    exec (.fldGet a d) s = .next ((s.setRspVal ((d.extract a).setWidth 20)).complete statusOk) := by
  rw [exec_fldGet_idle a d hs, if_pos (d.legal_iff.mpr ⟨hwid, hfit⟩)]

theorem exec_fldSet_legal (a b : Frame) {d : FieldDesc} (hwid : 1 ≤ d.wid.toNat)
    (hfit : d.off.toNat + d.wid.toNat ≤ d.backing) {s : State} (hs : s.seq = .idle) :
    exec (.fldSet a b d) s = .next ((s.setRspFrame (d.insert a b)).complete statusOk) := by
  rw [exec_fldSet_idle a b d hs, if_pos (d.legal_iff.mpr ⟨hwid, hfit⟩)]

/-- Settles O30: the field read back is the value masked to its width, which is its remainder (R13). -/
theorem fieldGetOfSetIsValueModWidth : Obligations.FieldGetOfSetIsValueModWidth := by
  intro d a v s hs hwid hfit
  refine ⟨_, _, exec_fldSet_legal a v hwid hfit hs, exec_fldGet_legal _ hwid hfit rfl, ?_⟩
  simp only [complete_rspVal, setRspVal_rspVal, complete_rspFrame, setRspFrame_rspFrame]
  rw [d.extract_insert a v hfit, setWidth_value_toNat, and_lowMask_toNat]

/-- Settles O31: outside its field the result is the backing value, A below the backing width and 0 above (R85,
R86). -/
theorem fieldSetPreservesOtherBits : Obligations.FieldSetPreservesOtherBits := by
  intro d a v s hs hwid hfit
  refine ⟨_, exec_fldSet_legal a v hwid hfit hs, fun n => ⟨fun hn hout => ?_, fun hn => ?_⟩⟩
  · refine (d.insert_getLsbD_kept a v hout).trans ((d.raw_getLsbD a n).trans ?_)
    rw [decide_eq_true (p := n < d.backing) hn, Bool.true_and]
  · refine (d.insert_getLsbD_kept a v (.inr (hfit.trans hn))).trans ((d.raw_getLsbD a n).trans ?_)
    rw [decide_eq_false (p := n < d.backing) hn.not_gt, Bool.false_and]

/-- Settles O32: the field goes back where it was read, and what is left is the backing value (R83, R84). -/
theorem fieldSetOfGetIsIdentity : Obligations.FieldSetOfGetIsIdentity := by
  intro d a s hs hwid hfit
  refine ⟨_, _, exec_fldGet_legal a hwid hfit hs, exec_fldSet_legal a _ hwid hfit rfl, ?_⟩
  simp only [complete_rspFrame, setRspFrame_rspFrame, complete_rspVal, setRspVal_rspVal]
  rw [setWidth_value_setWidth_frame, d.insert_extract, d.raw_eq_ite_and]

/-- Settles O34: 45 / 2048 is 360 / 16384, and a 14-bit number times 45 fits 20 bits (R131, R133, R134). -/
theorem angleScalingIsExact : Obligations.AngleScalingIsExact := by
  intro raw s hs
  have hraw := raw.isLt
  refine ⟨_, exec_angScl_idle raw hs, ?_, ?_, ?_, fun raw' hlt => ⟨_, exec_angScl_idle raw' hs, ?_⟩⟩ <;>
    simp only [complete_rspVal, setRspVal_rspVal, scaleAngle_toNat] <;> omega

end Machine

end Sys2Proof

/-! SUPPORT. All a step can do, case by case: what accepting a request makes of the state, what a line issues, and what
a busy block makes of an acknowledgement (43_sequencer.md R112, R113). -/

namespace Sys2Proof.Machine

/-! Accepting a request (R28, R112). -/

/-- What accepting a request may make of `s`; `exec_request` says that there is nothing else. -/
inductive Accepted (s : State) : State → Prop where
  /-- The operation completes at once, with one of the three statuses of R27. -/
  | completed {t : State} (code : BitVec 2) : code ≠ 3 → ResultWrites s t → Accepted s (t.complete code)
  /-- RD_REG starts its transaction (R114). -/
  | read (addr : Field14) : Accepted s (s.startTransaction .rd1 (commandFrame addr true) nopFrame)
  /-- WR_REG starts its transaction (R119). -/
  | write (addr data : Field14) :
      Accepted s (s.startTransaction .wr1 (commandFrame addr false) (dataFrame data))

/-- Every request is performed in IDLE and held outside (R112). -/
theorem exec_request {i : Instr} (hi : isRequest i = true) :
    ∃ f : State → State, (∀ s, exec i s = s.perform f) ∧ ∀ s, Accepted s (f s) := by
  cases i with
  | parGen a => exact ⟨_, fun _ => rfl, fun s => .completed _ (by decide) (.frame _ (.val _ .none))⟩
  | parChk a => exact ⟨_, fun _ => rfl, fun s => .completed _ (by decide) (.pe _ (.val _ .none))⟩
  | cmdEnc | datEnc => exact ⟨_, fun _ => rfl, fun s => .completed _ (by decide) (.frame _ .none)⟩
  | frmDec a => exact ⟨_, fun _ => rfl, fun s => .completed _ (by decide) (resultWrites_loadDataFrame s a)⟩
  | fldGet a d =>
    refine ⟨_, fun _ => rfl, fun s => ?_⟩
    split
    · exact .completed _ (by decide) (.val _ .none)
    · exact .completed _ (by decide) .none
  | fldSet a b d =>
    refine ⟨_, fun _ => rfl, fun s => ?_⟩
    split
    · exact .completed _ (by decide) (.frame _ .none)
    · exact .completed _ (by decide) .none
  | angScl raw => exact ⟨_, fun _ => rfl, fun s => .completed _ (by decide) (.val _ .none)⟩
  | rdReg addr => exact ⟨_, fun _ => rfl, fun s => .read addr⟩
  | wrReg addr data => exact ⟨_, fun _ => rfl, fun s => .write addr data⟩
  | reservedA | reservedB | reservedC | reservedD | reservedE | reservedF =>
    exact ⟨State.complete statusReservedOp, fun _ => rfl, fun s => .completed _ (by decide) .none⟩
  | wireReadCmd | wireWriteCmd | wireNop | wireData | readAngle | writeZpos | writeSettings1
  | writeSettings2 | readRegister | writeRegister => cases hi

theorem exec_request_idle {i : Instr} {s : State} (hi : isRequest i = true) (hs : s.seq = .idle) :
    ∃ t, exec i s = .next t ∧ Accepted s t := by
  obtain ⟨f, hf, hacc⟩ := exec_request hi
  exact ⟨f s, (hf s).trans (perform_idle f hs), hacc s⟩

theorem exec_request_busy {i : Instr} {s : State} (hi : isRequest i = true) (hs : s.seq ≠ .idle) :
    exec i s = .next s := by
  obtain ⟨f, hf, -⟩ := exec_request hi
  exact (hf s).trans (perform_busy f hs)

/-- Writes of the result registers change nothing but the four registers and their marks. -/
theorem ResultWrites.exists_eq {s t : State} (h : ResultWrites s t) :
    ∃ f v p e fs vs ps es, t = { s with
      rspFrame := f, rspVal := v, rspPe := p, rspEf := e, frameSet := fs, valSet := vs, peSet := ps, efSet := es } := by
  induction h with
  | none => exact ⟨_, _, _, _, _, _, _, _, rfl⟩
  | frame _ _ ih | val _ _ ih | pe _ _ ih | ef _ _ ih =>
    obtain ⟨f, v, p, e, fs, vs, ps, es, rfl⟩ := ih
    exact ⟨_, _, _, _, _, _, _, _, rfl⟩

/-- Accepting a request touches neither the requester's lines nor its error flag. -/
theorem Accepted.requester_eq {s t : State} (h : Accepted s t) :
    t.program = s.program ∧ t.noValueRead = s.noValueRead := by
  cases h with
  | completed code _ hw =>
    obtain ⟨_, _, _, _, _, _, _, _, rfl⟩ := hw.exists_eq
    exact ⟨rfl, rfl⟩
  | read | write => exact ⟨rfl, rfl⟩

/-! What a line issues: a request, or a pseudo-operation that only adds lines (R76, R77). -/

/-- Every request word is an operation of the request interface (R80). -/
theorem isRequest_decodeRequest (w : Request) : isRequest (decodeRequest w) = true := by
  unfold decodeRequest
  split <;> rfl

theorem isRequest_issue {line : Line} (h : line.presentsRequest = true) (s : State) :
    isRequest (line.issue s) = true := by
  cases line with
  | word w => exact isRequest_decodeRequest w
  | asm op a b c => exact isRequest_decodeRequest _
  | readAngle | writeZpos | writeSettings1 | writeSettings2 | readRegister | writeRegister => cases h

/-- The meaning of a pseudo-operation is its expansion, whatever state it runs in (R77, R136 to R143). -/
theorem exec_issue_pseudo {line : Line} (h : line.presentsRequest = false) (s : State) :
    ∃ lines, ∀ u, exec (line.issue s) u = .next (u.issueFirst lines) := by
  cases line with
  | word | asm => cases h
  | readAngle | writeZpos | writeSettings1 | writeSettings2 | readRegister | writeRegister =>
    exact ⟨_, fun _ => rfl⟩

/-- The sampled state with the first line taken, a copy of no value flagged (R28, R34). -/
def State.lineTaken (s : State) (line : Line) (rest : List Line) : State :=
  { s.sampleInputs with
    program := rest
    noValueRead := s.noValueRead || line.operands.any fun o => !s.readable o }

theorem step_eq_exec_lineTaken {s : State} {line : Line} {rest : List Line} (hs : s.seq = .idle)
    (hr : s.sampleInputs.resetIn = false) (hp : s.program = line :: rest) :
    step s = exec (line.issue s.sampleInputs) (s.lineTaken line rest) :=
  step_line hs hr hp

theorem lineTaken_seq (s : State) (line : Line) (rest : List Line) : (s.lineTaken line rest).seq = s.seq :=
  sampleInputs_seq s

/-! The exchange in progress (R113). -/

/-- What the acknowledgement of the exchange in progress makes of a busy state (R113, R117, R118, R120). -/
def State.afterAck (s : State) : State :=
  match s.seq with
  | .idle => s
  | .rd1 => (s.recordExchange s.tx1).startSecond .rd2
  | .rd2 => ((s.recordExchange s.tx2).loadDataFrame s.xferRx).releaseBus.complete statusOk
  | .wr1 => (s.recordExchange s.tx1).startSecond .wr2
  | .wr2 => (s.recordExchange s.tx2).releaseBus.complete statusOk

theorem afterAck_rd1 {s : State} (hs : s.seq = .rd1) :
    s.afterAck = (s.recordExchange s.tx1).startSecond .rd2 := by
  simp only [State.afterAck, hs]

theorem afterAck_rd2 {s : State} (hs : s.seq = .rd2) :
    s.afterAck = ((s.recordExchange s.tx2).loadDataFrame s.xferRx).releaseBus.complete statusOk := by
  simp only [State.afterAck, hs]

theorem afterAck_wr1 {s : State} (hs : s.seq = .wr1) :
    s.afterAck = (s.recordExchange s.tx1).startSecond .wr2 := by
  simp only [State.afterAck, hs]

theorem afterAck_wr2 {s : State} (hs : s.seq = .wr2) :
    s.afterAck = (s.recordExchange s.tx2).releaseBus.complete statusOk := by
  simp only [State.afterAck, hs]

/-- The end of an exchange touches neither the requester's lines nor its error flag. -/
theorem afterAck_requester_eq (s : State) :
    s.afterAck.program = s.program ∧ s.afterAck.noValueRead = s.noValueRead := by
  unfold State.afterAck
  split <;> simp

/-- An exchange at its own position. -/
theorem exchange_here {pos : Seq} {s : State} (tx : Frame) (k : State → State) (hp : s.seq = pos) :
    s.exchange pos tx k = .next (if s.xferAck then k (s.recordExchange tx) else s) := by
  cases ha : s.xferAck with
  | true => exact exchange_ack tx k hp ha
  | false => exact exchange_held tx k hp ha

/-- A frame is its low field between the two upper bits. -/
theorem packFrame_of_bit14 {f : Frame} {b : Bool} (h : frameBit14 f = b) :
    packFrame (frameBit15 f) b (frameLow f) = f := by
  rw [← h, packFrame_fields]

/-- The frame on the bus, decoded at its position, runs as the exchange of that same word (R63, R113). -/
theorem exec_frameOnBus {s : State} {c : Code} {i : Instr} (hc : s.frameOnBus = some c)
    (hd : decode c = .ok i) : exec i s = .next (if s.xferAck then s.afterAck else s) := by
  cases hs : s.seq with
  | idle => simp [State.frameOnBus, hs] at hc
  | rd1 =>
    obtain rfl : Code.readFirst s.tx1 = c := by simpa [State.frameOnBus, hs] using hc
    obtain ⟨hread, rfl⟩ : frameBit14 s.tx1 = true ∧ decodeCommand s.tx1 = i := by
      simpa [decode, ite_eq_iff] using hd
    rw [decodeCommand, if_pos hread, exec_wireReadCmd_eq_exchange, packFrame_of_bit14 hread,
      exchange_here _ _ hs, afterAck_rd1 hs]
  | rd2 =>
    obtain rfl : Code.readSecond s.tx2 = c := by simpa [State.frameOnBus, hs] using hc
    obtain ⟨hnop, rfl⟩ : s.tx2 = nopFrame ∧ Instr.wireNop = i := by
      simpa [decode, nopFrame, ite_eq_iff] using hd
    rw [exec_wireNop_eq_exchange, exchange_here _ _ hs, afterAck_rd2 hs, hnop]
    rfl
  | wr1 =>
    obtain rfl : Code.writeFirst s.tx1 = c := by simpa [State.frameOnBus, hs] using hc
    obtain ⟨hwrite, rfl⟩ : frameBit14 s.tx1 = false ∧ decodeCommand s.tx1 = i := by
      simpa [decode, ite_eq_iff] using hd
    rw [decodeCommand, if_neg (by simp [hwrite]), exec_wireWriteCmd_eq_exchange,
      packFrame_of_bit14 hwrite, exchange_here _ _ hs, afterAck_wr1 hs]
  | wr2 =>
    obtain rfl : Code.writeSecond s.tx2 = c := by simpa [State.frameOnBus, hs] using hc
    obtain rfl : decodeData s.tx2 = i := by simpa [decode] using hd
    rw [decodeData, exec_wireData_eq_exchange, packFrame_fields, exchange_here _ _ hs, afterAck_wr2 hs]

/-! The steps, by what they find. -/

theorem step_reset {s : State} (hr : s.sampleInputs.resetIn = true) :
    step s = .next s.sampleInputs.applyReset := by
  simp only [step, hr, if_true]

/-- With no line left, a step in IDLE only samples its inputs (R164). -/
theorem step_no_line {s : State} (hs : s.seq = .idle) (hr : s.sampleInputs.resetIn = false)
    (hp : s.program = []) : step s = .next s.sampleInputs := by
  simp [step, hr, State.fetch, (frameOnBus_eq_none_iff _).mpr ((sampleInputs_seq s).trans hs),
    State.fetchLine, hp]

@[simp] theorem frameOnBus_sampleInputs (s : State) : s.sampleInputs.frameOnBus = s.frameOnBus := by
  simp [State.frameOnBus]

/-- A busy step runs the frame that its latch decodes to at its position (R63, R113). -/
theorem step_frameOnBus {s : State} {c : Code} {i : Instr} (hr : s.sampleInputs.resetIn = false)
    (hc : s.frameOnBus = some c) (hd : decode c = .ok i) : step s = exec i s.sampleInputs := by
  simp [step, hr, State.fetch, hc, fetchFrame, hd]

/-- A busy step samples its inputs, and the exchange ends where it is acknowledged (R50, R113). -/
theorem step_busy {s : State} (hl : s.LatchesOk) (hb : s.seq ≠ .idle) (hr : s.sampleInputs.resetIn = false) :
    step s = .next (if s.sampleInputs.xferAck then s.sampleInputs.afterAck else s.sampleInputs) := by
  obtain ⟨i, tx, k, hf, -⟩ := fetch_exchange ((latchesOk_sampleInputs s).mpr hl) (by rwa [sampleInputs_seq])
  obtain ⟨hs, -⟩ | ⟨-, c, hc, hd, -⟩ := fetch_cases hf
  · exact absurd ((sampleInputs_seq s).symm.trans hs) hb
  · rw [step_frameOnBus hr ((frameOnBus_sampleInputs s).symm.trans hc) hd]
    exact exec_frameOnBus hc hd

/-- Nothing is found to run only in IDLE with no line left. -/
theorem fetch_eq_nothing {s : State} (h : s.fetch = .nothing) : s.seq = .idle ∧ s.program = [] := by
  unfold State.fetch at h
  split at h
  · next hb =>
    refine ⟨(frameOnBus_eq_none_iff s).mp hb, ?_⟩
    unfold State.fetchLine at h
    split at h
    · assumption
    · cases h
  · unfold fetchFrame at h
    split at h <;> cases h

/-- What a step may make of `s`; `step_outcome` says that there is nothing else. -/
inductive StepOutcome (s : State) : State → Prop where
  /-- A reset wins (R166). -/
  | reset : s.sampleInputs.resetIn = true → StepOutcome s s.sampleInputs.applyReset
  /-- The requester has no line left. -/
  | noLine : s.sampleInputs.resetIn = false → s.seq = .idle → s.program = [] → StepOutcome s s.sampleInputs
  /-- The first line's request is accepted. -/
  | accepted {t : State} (line : Line) (rest : List Line) :
      s.sampleInputs.resetIn = false → s.seq = .idle → s.program = line :: rest →
      line.presentsRequest = true → exec (line.issue s.sampleInputs) (s.lineTaken line rest) = .next t →
      Accepted (s.lineTaken line rest) t → StepOutcome s t
  /-- The first line's pseudo-operation is expanded. -/
  | expanded (line : Line) (rest lines : List Line) :
      s.sampleInputs.resetIn = false → s.seq = .idle → s.program = line :: rest →
      line.presentsRequest = false → StepOutcome s ((s.lineTaken line rest).issueFirst lines)
  /-- The exchange in progress is not acknowledged. -/
  | held : s.sampleInputs.resetIn = false → s.seq ≠ .idle → s.sampleInputs.xferAck = false →
      StepOutcome s s.sampleInputs
  /-- The exchange in progress is acknowledged. -/
  | answered : s.sampleInputs.resetIn = false → s.seq ≠ .idle → s.sampleInputs.xferAck = true →
      StepOutcome s s.sampleInputs.afterAck

/-- All a step that answers a next state can do. -/
theorem step_outcome {s t : State} (h : step s = .next t) : StepOutcome s t := by
  obtain ⟨hr, rfl⟩ | ⟨hr, hf, rfl⟩ | ⟨hr, i, u, hf, he⟩ := step_cases h
  · exact .reset hr
  · obtain ⟨hs, hp⟩ := fetch_eq_nothing hf
    exact .noLine hr ((sampleInputs_seq s).symm.trans hs) ((sampleInputs_program s).symm.trans hp)
  · obtain ⟨hs, line, rest, hp, -, -⟩ | ⟨hb, c, hc, hd, rfl⟩ := fetch_cases hf
    · rw [sampleInputs_seq] at hs
      rw [sampleInputs_program] at hp
      rw [step_eq_exec_lineTaken hs hr hp] at h
      cases hline : line.presentsRequest with
      | true =>
        obtain ⟨t', ht', hacc⟩ := exec_request_idle (isRequest_issue hline s.sampleInputs)
          ((lineTaken_seq s line rest).trans hs)
        obtain rfl := Host.Outcome.next.inj (ht'.symm.trans h)
        exact .accepted line rest hr hs hp hline h hacc
      | false =>
        obtain ⟨lines, hlines⟩ := exec_issue_pseudo hline s.sampleInputs
        obtain rfl := Host.Outcome.next.inj ((hlines _).symm.trans h)
        exact .expanded line rest lines hr hs hp hline
    · rw [sampleInputs_seq] at hb
      obtain rfl := Host.Outcome.next.inj ((exec_frameOnBus hc hd).symm.trans he)
      cases hack : s.sampleInputs.xferAck with
      | true => exact .answered hr hb hack
      | false => exact .held hr hb hack

end Sys2Proof.Machine

/-! SUPPORT. What every step keeps: the invariant, the requester's lines and its error flag, and the transition table
(10_state.md sections 2 to 4, 43_sequencer.md section 1). -/

namespace Sys2Proof.Machine

/-! The invariant (R27, R31, R33, R105, R127). -/

/-- The word of the exchange in progress has an odd number of 1 bits (R105). -/
theorem State.LatchesOk.oddFrame_xferTx {s : State} {tx : Frame} (hl : s.LatchesOk) (htx : s.xferTx = some tx) :
    OddFrame tx := by
  have hnop : OddFrame 0x4000#16 := by unfold OddFrame; decide
  unfold State.LatchesOk at hl
  cases hs : s.seq with
  | idle => simp [State.xferTx, hs] at htx
  | rd1 =>
    obtain ⟨-, hodd, -⟩ := by simpa only [hs] using hl
    obtain rfl : s.tx1 = tx := by simpa [State.xferTx, hs] using htx
    exact hodd
  | rd2 =>
    obtain ⟨-, -, htx2⟩ := by simpa only [hs] using hl
    obtain rfl : s.tx2 = tx := by simpa [State.xferTx, hs] using htx
    exact htx2 ▸ hnop
  | wr1 =>
    obtain ⟨-, hodd, -⟩ := by simpa only [hs] using hl
    obtain rfl : s.tx1 = tx := by simpa [State.xferTx, hs] using htx
    exact hodd
  | wr2 =>
    obtain ⟨-, -, -, hodd⟩ := by simpa only [hs] using hl
    obtain rfl : s.tx2 = tx := by simpa [State.xferTx, hs] using htx
    exact hodd

/-- A record of this block's events stays one with further events of this block. -/
theorem forall_mem_append_ok {cs : BitVec Config.csIdWidth} {log log' : List BusEvent}
    (hlog : ∀ e ∈ log, e.Ok cs) (hnew : ∀ e ∈ log', e.Ok cs) : ∀ e ∈ log ++ log', e.Ok cs := by
  intro e he
  obtain hold | hadd := List.mem_append.mp he
  · exact hlog e hold
  · exact hnew e hadd

/-- Sampling the inputs keeps the invariant: other traffic in IDLE finds BUS_OWN low (R31, R160). -/
theorem State.Inv.sampleInputs {s : State} (h : s.Inv) : s.sampleInputs.Inv where
  busOwn_iff := by simpa using h.busOwn_iff
  xferReq_iff := by simpa using h.xferReq_iff
  latches := (latchesOk_sampleInputs s).mpr h.latches
  err_ne_three := by simpa using h.err_ne_three
  written := by simpa using h.written
  valid_idle := by simp
  keeps_off_idle := by
    intro hs
    rw [sampleInputs_seq] at hs
    have hown : s.busOwn = false := by rw [h.busOwn_iff, hs]; rfl
    obtain hkept | hforeign := sampleInputs_busLog s
    · rw [hkept]
      exact h.keeps_off_idle hs
    · simp [hforeign, hown]
  log := by
    rw [sampleInputs_csId]
    obtain hkept | hforeign := sampleInputs_busLog s
    · rw [hkept]
      exact h.log
    · rw [hforeign]
      exact forall_mem_append_ok h.log (by simp [BusEvent.Ok])

/-- The requester's lines and its error flag are no part of the invariant. -/
theorem State.Inv.lineTaken {s : State} (h : s.Inv) (line : Line) (rest : List Line) :
    (s.lineTaken line rest).Inv :=
  { h.sampleInputs with }

theorem State.Inv.issueFirst {s : State} (h : s.Inv) (lines : List Line) : (s.issueFirst lines).Inv :=
  { h with }

/-- A completing step with the bus released leaves the invariant. -/
theorem inv_complete {s : State} {code : BitVec 2} (hcode : code ≠ 3) (hown : s.busOwn = false)
    (hreq : s.xferReq = false) (hlast : s.busLog.getLast? ≠ some (.foreign true))
    (hlog : ∀ e ∈ s.busLog, e.Ok s.csId) : (s.complete code).Inv where
  busOwn_iff := hown
  xferReq_iff := hreq
  latches := trivial
  err_ne_three := fun _ => hcode
  written := fun _ => rfl
  valid_idle := fun _ => rfl
  keeps_off_idle := fun _ => hlast
  log := hlog

/-- RD_REG latches a read command and the NOP frame (R105, R114). -/
theorem latchesOk_startRead (s : State) (addr : Field14) :
    (s.startTransaction .rd1 (commandFrame addr true) nopFrame).LatchesOk :=
  ⟨frameBit14_commandFrame addr true, oddFrame_commandFrame addr true, rfl⟩

/-- WR_REG latches a write command and a data frame with EF = 0 (R105, R119). -/
theorem latchesOk_startWrite (s : State) (addr data : Field14) :
    (s.startTransaction .wr1 (commandFrame addr false) (dataFrame data)).LatchesOk :=
  have hdata := dataFrame_eq_commandFrame data
  ⟨frameBit14_commandFrame addr false, oddFrame_commandFrame addr false,
    hdata ▸ frameBit14_commandFrame data false, hdata ▸ oddFrame_commandFrame data false⟩

/-- Accepting a request keeps the invariant: the latches are loaded with the transaction's frames (R105, R114, R119). -/
theorem Accepted.inv {s t : State} (ht : Accepted s t) (hs : s.seq = .idle) (hv : s.rspValid = false) (h : s.Inv) :
    t.Inv := by
  have hown : s.busOwn = false := by rw [h.busOwn_iff, hs]; rfl
  have hreq : s.xferReq = false := by rw [h.xferReq_iff, hs]; rfl
  cases ht with
  | completed code hcode hw =>
    obtain ⟨_, _, _, _, _, _, _, _, rfl⟩ := hw.exists_eq
    exact inv_complete hcode hown hreq (h.keeps_off_idle hs) h.log
  | read addr =>
    exact {
      busOwn_iff := rfl
      xferReq_iff := rfl
      latches := latchesOk_startRead s addr
      err_ne_three := h.err_ne_three
      written := h.written
      valid_idle := fun hvalid => absurd hvalid (Bool.eq_false_iff.mp hv)
      keeps_off_idle := nofun
      log := h.log }
  | write addr data =>
    exact {
      busOwn_iff := rfl
      xferReq_iff := rfl
      latches := latchesOk_startWrite s addr data
      err_ne_three := h.err_ne_three
      written := h.written
      valid_idle := fun hvalid => absurd hvalid (Bool.eq_false_iff.mp hv)
      keeps_off_idle := nofun
      log := h.log }

/-- A reset keeps the invariant: no result register holds a value, and a record it closes ends in the cut (R166). -/
theorem State.Inv.applyReset {s : State} (h : s.Inv) : s.applyReset.Inv where
  busOwn_iff := rfl
  xferReq_iff := rfl
  latches := trivial
  err_ne_three := nofun
  written := nofun
  valid_idle := nofun
  keeps_off_idle := by
    intro _
    unfold State.applyReset State.recordReset
    dsimp only
    split
    · next hnone =>
      refine h.keeps_off_idle ?_
      cases hs : s.seq <;> simp [State.xferTx, hs] at hnone ⊢
    · split <;> simp
  log := by
    obtain hkept | ⟨tx, htx, hended⟩ | ⟨tx, htx, habandoned⟩ := recordReset_cases s
    · rw [applyReset_busLog, hkept]
      exact h.log
    · rw [applyReset_busLog, hended]
      exact forall_mem_append_ok h.log (by simp [BusEvent.Ok, h.latches.oddFrame_xferTx htx])
    · rw [applyReset_busLog, habandoned]
      exact forall_mem_append_ok h.log (by simp [BusEvent.Ok, h.latches.oddFrame_xferTx htx])

/-- The exchange of an odd-parity word enters the record as one of this block's events (R47, R105). -/
theorem State.Inv.recordExchange_log {s : State} (h : s.Inv) {tx : Frame} (hodd : OddFrame tx) :
    ∀ e ∈ (s.recordExchange tx).busLog, e.Ok s.csId :=
  forall_mem_append_ok h.log (by simp [BusEvent.Ok, State.xferCs, hodd])

/-- The step from the first exchange to the second keeps the invariant where the latches allow the second (R113). -/
theorem State.Inv.startSecond {s : State} (h : s.Inv) {tx : Frame} {second : Seq} (hodd : OddFrame tx)
    (hb : s.seq ≠ .idle) (hsecond : second ≠ .idle) (hv : s.rspValid = false)
    (hl : ((s.recordExchange tx).startSecond second).LatchesOk) :
    ((s.recordExchange tx).startSecond second).Inv :=
  have hbusy : (s.seq != .idle) = (second != .idle) := by rw [bne_iff_ne.mpr hb, bne_iff_ne.mpr hsecond]
  { busOwn_iff := h.busOwn_iff.trans hbusy
    xferReq_iff := h.xferReq_iff.trans hbusy
    latches := hl
    err_ne_three := h.err_ne_three
    written := h.written
    valid_idle := fun hvalid => absurd hvalid (Bool.eq_false_iff.mp hv)
    keeps_off_idle := fun hs => absurd hs hsecond
    log := h.recordExchange_log hodd }

/-- A record that ends in an exchange does not end in other traffic. -/
theorem recordExchange_getLast?_ne_foreign (s : State) (tx : Frame) :
    (s.recordExchange tx).busLog.getLast? ≠ some (.foreign true) := by
  simp [State.recordExchange]

/-- The acknowledgement of the exchange in progress keeps the invariant (R113). -/
theorem State.Inv.afterAck {s : State} (h : s.Inv) (hb : s.seq ≠ .idle) (hv : s.rspValid = false) :
    s.afterAck.Inv := by
  have hodd {tx : Frame} (htx : s.xferTx = some tx) : OddFrame tx := h.latches.oddFrame_xferTx htx
  have hl := h.latches
  unfold State.LatchesOk at hl
  cases hs : s.seq with
  | idle => exact absurd hs hb
  | rd1 =>
    simp only [hs] at hl
    rw [afterAck_rd1 hs]
    exact h.startSecond (hodd (by simp [State.xferTx, hs])) hb (by decide) hv hl
  | wr1 =>
    simp only [hs] at hl
    rw [afterAck_wr1 hs]
    exact h.startSecond (hodd (by simp [State.xferTx, hs])) hb (by decide) hv hl
  | rd2 =>
    rw [afterAck_rd2 hs]
    exact inv_complete (by decide) rfl rfl (recordExchange_getLast?_ne_foreign s s.tx2)
      (h.recordExchange_log (hodd (by simp [State.xferTx, hs])))
  | wr2 =>
    rw [afterAck_wr2 hs]
    exact inv_complete (by decide) rfl rfl (recordExchange_getLast?_ne_foreign s s.tx2)
      (h.recordExchange_log (hodd (by simp [State.xferTx, hs])))

/-- Settles O45: sampling keeps the invariant, and so does each thing a step can then do. -/
theorem everyStepKeepsInvariant : Obligations.EveryStepKeepsInvariant := by
  intro s t h hstep
  cases step_outcome hstep with
  | reset => exact h.sampleInputs.applyReset
  | noLine | held => exact h.sampleInputs
  | accepted line rest _ hs _ _ _ hacc =>
    exact hacc.inv ((lineTaken_seq s line rest).trans hs) (sampleInputs_rspValid s) (h.lineTaken line rest)
  | expanded line rest lines => exact (h.lineTaken line rest).issueFirst lines
  | answered _ hb _ =>
    exact h.sampleInputs.afterAck (by rwa [sampleInputs_seq]) (sampleInputs_rspValid s)

/-- Settles O44: after reset SEQ is IDLE, no register holds a value and the record is empty (R35). -/
theorem resetStateHasInvariant : Obligations.ResetStateHasInvariant where
  busOwn_iff := rfl
  xferReq_iff := rfl
  latches := trivial
  err_ne_three := nofun
  written := nofun
  valid_idle := nofun
  keeps_off_idle := nofun
  log := nofun

/-- Settles O46: a busy state's latches decode, and a line in IDLE is a request or a pseudo-operation, both of which
answer (R147). -/
theorem invariantStatesAlwaysStep : Obligations.InvariantStatesAlwaysStep := by
  intro s h
  cases hr : s.sampleInputs.resetIn with
  | true => exact ⟨_, step_reset hr⟩
  | false =>
    by_cases hs : s.seq = .idle
    · cases hp : s.program with
      | nil => exact ⟨_, step_no_line hs hr hp⟩
      | cons line rest =>
        rw [step_eq_exec_lineTaken hs hr hp]
        cases hline : line.presentsRequest with
        | true =>
          obtain ⟨t, ht, -⟩ := exec_request_idle (isRequest_issue hline s.sampleInputs)
            ((lineTaken_seq s line rest).trans hs)
          exact ⟨t, ht⟩
        | false =>
          obtain ⟨lines, hlines⟩ := exec_issue_pseudo hline s.sampleInputs
          exact ⟨_, hlines _⟩
    · exact ⟨_, step_busy h.latches hs hr⟩

/-! The requester's lines and its error flag (R34, R112, R165). -/

/-- Outside IDLE, and in a step of reset, the requester keeps its lines (R112; log entry 26). -/
theorem step_program_of_not_accepting {s t : State} (h : step s = .next t)
    (hno : s.seq ≠ .idle ∨ s.sampleInputs.resetIn = true) : t.program = s.program := by
  cases step_outcome h with
  | reset => exact sampleInputs_program s
  | noLine | held => exact sampleInputs_program s
  | accepted _ _ hr hs | expanded _ _ _ hr hs => simp [hr, hs] at hno
  | answered =>
    obtain ⟨hprogram, -⟩ := afterAck_requester_eq s.sampleInputs
    exact hprogram.trans (sampleInputs_program s)

/-- Settles O16: a busy block performs no request and takes no line (R112), and in IDLE a step runs the first line. -/
theorem requestWhileBusyIsHeld : Obligations.RequestWhileBusyIsHeld := fun _ =>
  ⟨fun hb => ⟨fun _ hi => exec_request_busy hi hb, fun _ h => step_program_of_not_accepting h (.inl hb)⟩,
    fun hs hr _ _ hp => step_line hs hr hp⟩

/-- The error flag after a step: as before, or raised by a line taken in IDLE that copies no value (R34). -/
theorem step_noValueRead {s t : State} (h : step s = .next t) :
    t.noValueRead = (s.noValueRead || (decide (s.seq = .idle) && !s.sampleInputs.resetIn &&
      s.program.head?.any fun line => line.operands.any fun o => !s.readable o)) := by
  cases step_outcome h with
  | reset hr => simp [hr]
  | noLine _ _ hp => simp [hp]
  | accepted line rest hr hs hp _ _ hacc =>
    obtain ⟨-, hflag⟩ := hacc.requester_eq
    simp [hflag, State.lineTaken, hr, hs, hp]
  | expanded line rest lines hr hs hp => simp [State.lineTaken, hr, hs, hp]
  | held _ hb => simp [hb]
  | answered _ hb =>
    obtain ⟨-, hflag⟩ := afterAck_requester_eq s.sampleInputs
    simp [hflag, hb]

/-- Settles O47: a read is flagged by the register's mark, a step raises the flag only with the line it takes, and no
mark is up after a reset (R34, R35). -/
theorem unwrittenRegisterReadsAreFlagged : Obligations.UnwrittenRegisterReadsAreFlagged := by
  refine ⟨fun s => ⟨rfl, rfl, rfl, rfl, rfl⟩, fun s t h => ?_, ?_⟩
  · rw [step_noValueRead h]
    cases hp : s.program with
    | nil => simp
    | cons line rest => simp [and_assoc]
  · intro s hs
    simp only [List.mem_cons, List.not_mem_nil, or_false] at hs
    obtain rfl | rfl := hs <;> exact ⟨rfl, rfl⟩

/-! The transition table (R113). -/

theorem afterAck_seq (s : State) :
    s.afterAck.seq = match s.seq with
      | .idle => .idle
      | .rd1 => .rd2
      | .rd2 => .idle
      | .wr1 => .wr2
      | .wr2 => .idle := by
  unfold State.afterAck
  split <;> simp [*]

/-- An accepted request leaves SEQ in IDLE or starts a transaction. -/
theorem Accepted.seq_cases {s t : State} (h : Accepted s t) : t.seq = .idle ∨ t.seq = .rd1 ∨ t.seq = .wr1 := by
  cases h with
  | completed => exact .inl rfl
  | read => exact .inr (.inl rfl)
  | write => exact .inr (.inr rfl)

/-- Settles O49: a line taken in IDLE leaves SEQ there or starts a transaction, and an acknowledgement moves SEQ along
the transaction (R113). -/
theorem sequencerFollowsItsTable : Obligations.SequencerFollowsItsTable := by
  intro s t h hr
  cases step_outcome h with
  | reset hreset => simp [hr] at hreset
  | noLine _ hs => simp [hs]
  | accepted _ _ _ hs _ _ _ hacc => simpa [hs] using hacc.seq_cases
  | expanded line rest lines _ hs => simp [hs, lineTaken_seq]
  | held _ hb hack => simp [hb, hack]
  | answered _ hb hack =>
    refine ⟨fun hs => absurd hs hb, ?_, ?_, ?_, ?_⟩ <;> intro hs <;> simp [afterAck_seq, hs, hack]

/-! The handshake (R28, R165). -/

theorem reqReady_eq_true_iff (s : State) : s.reqReady = true ↔ s.seq = .idle := by
  simp [State.reqReady]

/-- In IDLE with no reset a line is presented exactly when it is a request (R28, R77). -/
theorem reqValid_of_accepting {s : State} {line : Line} {rest : List Line} (hs : s.seq = .idle)
    (hr : s.sampleInputs.resetIn = false) (hp : s.program = line :: rest) :
    s.sampleInputs.reqValid = line.presentsRequest := by
  simp [State.reqValid, hp, hr, State.reqReady, hs]

/-- Settles O58: with both signals up the step runs the line's request; with req_valid down it can only expand a line;
a busy step takes none (R28). -/
theorem handshakeAcceptsAnOperation : Obligations.HandshakeAcceptsAnOperation := by
  intro s t h hr
  simp only [reqReady_sampleInputs]
  refine ⟨fun hready hvalid => ?_, fun hready hlow => ?_, fun hready => ?_⟩
  · have hs := (reqReady_eq_true_iff s).mp hready
    cases step_outcome h with
    | reset hreset => simp [hr] at hreset
    | noLine _ _ hp => simp [State.reqValid, hp] at hvalid
    | accepted line rest _ _ hp hline hexec hacc =>
      obtain ⟨hprogram, hflag⟩ := hacc.requester_eq
      refine ⟨line, _, hprogram ▸ hp, rfl, isRequest_issue hline _, ?_⟩
      rw [hprogram, hflag]
      exact hexec
    | expanded line rest lines _ _ hp hline => simp [reqValid_of_accepting hs hr hp, hline] at hvalid
    | held _ hb | answered _ hb => exact absurd hs hb
  · have hs := (reqReady_eq_true_iff s).mp hready
    cases step_outcome h with
    | reset hreset => simp [hr] at hreset
    | noLine => rfl
    | accepted line rest _ _ hp hline => simp [reqValid_of_accepting hs hr hp, hline] at hlow
    | expanded => rfl
    | held _ hb | answered _ hb => exact absurd hs hb
  · refine step_program_of_not_accepting h (.inl fun hs => ?_)
    simp [(reqReady_eq_true_iff s).mpr hs] at hready

/-- A literal operand has the same bits in every state (R76). -/
theorem copied_of_isLiteral {o : Operand} (h : o.isLiteral = true) (s t : State) : s.copied o = t.copied o := by
  cases o with
  | lit v => rfl
  | rspFrame | rspVal => cases h

/-- A request of literals issues the same instruction in every state (R165). -/
theorem issue_of_literals {line : Line} (hline : line.presentsRequest = true)
    (h : line.operands.all Operand.isLiteral = true) (s t : State) : line.issue s = line.issue t := by
  cases line with
  | word w => rfl
  | asm op a b c =>
    obtain ⟨ha, hb⟩ : a.isLiteral = true ∧ b.isLiteral = true := by simpa [Line.operands] using h
    simp only [Line.issue, operand_value_eq, copied_of_isLiteral ha s t, copied_of_isLiteral hb s t]
  | readAngle | writeZpos | writeSettings1 | writeSettings2 | readRegister | writeRegister => cases hline

/-- A line of literals is presented whatever the block does (R165). -/
theorem reqValid_of_literals {s : State} {line : Line} {rest : List Line} (hp : s.program = line :: rest)
    (hline : line.presentsRequest = true) (h : line.operands.all Operand.isLiteral = true) :
    s.reqValid = true := by
  simp only [State.reqValid, hp, hline, h, Bool.true_or, Bool.and_self]

/-- Settles O59: a request presented where it is not accepted is one of literals, its line stays first, and literals
give the same word in every state (R165). -/
theorem presentedRequestIsHeldSteady : Obligations.PresentedRequestIsHeldSteady := by
  intro s t h hvalid hno
  have hprogram := step_program_of_not_accepting h hno
  cases hp : s.program with
  | nil => simp [State.reqValid, hp] at hvalid
  | cons line rest =>
    have hnoaccept : (s.reqReady && !s.sampleInputs.resetIn) = false := by
      obtain hb | hreset := hno
      · simp [State.reqReady, hb]
      · simp [hreset]
    obtain ⟨hline, hliteral⟩ :
        line.presentsRequest = true ∧ line.operands.all Operand.isLiteral = true := by
      simpa only [State.reqValid, sampleInputs_program, hp, reqReady_sampleInputs, hnoaccept, Bool.or_false,
        Bool.and_eq_true] using hvalid
    refine ⟨hprogram.trans hp, reqValid_of_literals (line := line) (rest := rest) ?_ hline hliteral, ?_⟩
    · rw [sampleInputs_program, hprogram, hp]
    · rintro line' rest' ⟨⟩
      exact issue_of_literals hline hliteral _ _

end Sys2Proof.Machine

/-! SUPPORT. Whole transactions: what RD_REG and WR_REG leave after any waits of the transport, and the sequences the
pseudo-operations expand to (43_sequencer.md sections 1 to 4, 44_angle_and_facade.md section 2). -/

namespace Sys2Proof.Machine

/-! The acceptance of the two transactions (R113, R114, R119). -/

theorem exec_rdReg_idle (addr : Field14) {s : State} (hs : s.seq = .idle) :
    exec (.rdReg addr) s = .next (s.startTransaction .rd1 (commandFrame addr true) nopFrame) := by
  simp only [exec, execRdReg, perform_idle _ hs]

theorem exec_wrReg_idle (addr data : Field14) {s : State} (hs : s.seq = .idle) :
    exec (.wrReg addr data) s =
      .next (s.startTransaction .wr1 (commandFrame addr false) (dataFrame data)) := by
  simp only [exec, execWrReg, perform_idle _ hs]

/-- The read command frame as the mask of A with RW set and P above it (R114). -/
theorem readCommand_eq_or_ite (a : Frame) :
    let lo : Frame := (a &&& 0x3FFF#16) ||| 0x4000#16
    commandFrame (frameLow a) true =
      lo ||| (if popcount (lo.extractLsb' 0 15) % 2 = 0 then 0x8000#16 else 0#16) :=
  commandFrame_eq_or_ite a 1#16

/-- The write command frame as the mask of A with P above it: it is laid out as a data frame (R119). -/
theorem writeCommand_eq_or_ite (a : Frame) :
    let lo : Frame := a &&& 0x3FFF#16
    commandFrame (frameLow a) false =
      lo ||| (if popcount (lo.extractLsb' 0 15) % 2 = 0 then 0x8000#16 else 0#16) :=
  (dataFrame_eq_commandFrame (frameLow a)).symm.trans (dataFrame_eq_or_ite a)

/-- Settles O10: OP 8 selects RD_REG of A[13:0], and its acceptance latches the read command and the NOP frame
(R114). -/
theorem rdRegIsAccepted : Obligations.RdRegIsAccepted := by
  intro a b c s hs lo
  refine ⟨decodeRequest_requestWord_rdReg a b c, ?_⟩
  rw [← readCommand_eq_or_ite a]
  exact exec_rdReg_idle _ hs

/-- Settles O11: OP 9 selects WR_REG of A[13:0] and B[13:0], and its acceptance latches the write command and the data
frame (R119). -/
theorem wrRegIsAccepted : Obligations.WrRegIsAccepted := by
  intro a b c s hs lo1 lo2
  refine ⟨decodeRequest_requestWord_wrReg a b c, ?_⟩
  rw [← writeCommand_eq_or_ite a, ← dataFrame_eq_or_ite b]
  exact exec_wrReg_idle _ _ hs

/-! Waiting for the transport and its acknowledgement (R50, R113). -/

/-- A step whose environment raises no input only lowers the sampled inputs. -/
theorem sampleInputs_quietStep {s : State} {later : List EnvStep} (h : s.stimulus = quietStep :: later) :
    s.sampleInputs = { s with rspValid := false, xferAck := false, resetIn := false, stimulus := later } := by
  unfold State.sampleInputs
  rw [h]
  rfl

/-- A busy state after the step that acknowledges its exchange with `rx`. -/
def State.answeredWith (rx : Frame) (later : List EnvStep) (s : State) : State :=
  ({ s with
    rspValid := false, xferAck := true, xferRx := rx, resetIn := false, stimulus := later } : State).afterAck

/-- After any waits the acknowledgement ends the exchange as if it had come at once (R50, R113). -/
theorem runSteps_waits_ack {n : Nat} {rx : Frame} {later : List EnvStep} {s : State} (hl : s.LatchesOk)
    (hb : s.seq ≠ .idle) (hstim : s.stimulus = waits n ++ ackStep rx :: later) :
    runSteps (n + 1) s = .next (s.answeredWith rx later) := by
  induction n generalizing s with
  | zero =>
    have hin := sampleInputs_ackStep (s := s) (rx := rx) (later := later) hstim
    simp only [runSteps, step_busy hl hb (show s.sampleInputs.resetIn = false by rw [hin]), hin, if_true]
    rfl
  | succ n ih =>
    have hin := sampleInputs_quietStep (s := s) (later := waits n ++ ackStep rx :: later) hstim
    have hstep : step s = .next s.sampleInputs := by
      rw [step_busy hl hb (by rw [hin]), if_neg (by rw [hin]; exact Bool.false_ne_true)]
    rw [runSteps, hstep]
    refine (ih ((latchesOk_sampleInputs s).mpr hl) (by rwa [sampleInputs_seq]) ?_).trans ?_
    · rw [hin]
    · rw [hin]
      rfl

/-- The state after a read of `addr` whose exchanges were answered with `r1` and `r2` (R117, R118). -/
def State.afterRead (addr : Field14) (r1 r2 : Frame) (later : List EnvStep) (s : State) : State :=
  { s with
    seq := .idle
    busOwn := false
    tx1 := commandFrame addr true
    tx2 := nopFrame
    rspFrame := r2
    frameSet := true
    rspVal := (frameLow r2).setWidth 20
    valSet := true
    rspEf := errorFlag r2
    efSet := true
    rspPe := parityFault r2
    peSet := true
    rspErr := statusOk
    errSet := true
    rspValid := true
    xferReq := false
    xferAck := true
    xferRx := r2
    resetIn := false
    stimulus := later
    busLog := s.busLog ++ [.exchange s.csId (commandFrame addr true) r1, .exchange s.csId nopFrame r2] }

/-- The state after a write of `data` to `addr` whose exchanges were answered with `r1` and `r2` (R120). -/
def State.afterWrite (addr data : Field14) (r1 r2 : Frame) (later : List EnvStep) (s : State) : State :=
  { s with
    seq := .idle
    busOwn := false
    tx1 := commandFrame addr false
    tx2 := dataFrame data
    rspErr := statusOk
    errSet := true
    rspValid := true
    xferReq := false
    xferAck := true
    xferRx := r2
    resetIn := false
    stimulus := later
    busLog := s.busLog ++
      [.exchange s.csId (commandFrame addr false) r1, .exchange s.csId (dataFrame data) r2] }

/-- An accepted read, run through its two exchanges (R113). -/
theorem runSteps_startedRead (addr : Field14) {n m : Nat} {r1 r2 : Frame} {later : List EnvStep} {s : State}
    (hstim : s.stimulus = waits n ++ ackStep r1 :: (waits m ++ ackStep r2 :: later)) :
    ∃ u, runSteps (n + 1) (s.startTransaction .rd1 (commandFrame addr true) nopFrame) = .next u ∧
      u.busLog = s.busLog ++ [.exchange s.csId (commandFrame addr true) r1] ∧
      runSteps (m + 1) u = .next (s.afterRead addr r1 r2 later) := by
  have hsecond (rest : List EnvStep) :
      ((s.startTransaction .rd1 (commandFrame addr true) nopFrame).answeredWith r1 rest).LatchesOk :=
    latchesOk_startRead s addr
  refine ⟨_, runSteps_waits_ack (latchesOk_startRead s addr) Seq.noConfusion hstim, rfl,
    (runSteps_waits_ack (hsecond _) Seq.noConfusion rfl).trans ?_⟩
  simp [State.answeredWith, State.afterAck, State.startSecond, State.afterRead, State.recordExchange,
    State.startTransaction, State.loadDataFrame, State.complete, State.releaseBus, State.setRspFrame,
    State.setRspVal, State.setRspEf, State.setRspPe, State.xferCs]

/-- An accepted write, run through its two exchanges (R113). -/
theorem runSteps_startedWrite (addr data : Field14) {n m : Nat} {r1 r2 : Frame} {later : List EnvStep} {s : State}
    (hstim : s.stimulus = waits n ++ ackStep r1 :: (waits m ++ ackStep r2 :: later)) :
    ∃ u, runSteps (n + 1) (s.startTransaction .wr1 (commandFrame addr false) (dataFrame data)) = .next u ∧
      runSteps (m + 1) u = .next (s.afterWrite addr data r1 r2 later) := by
  have hsecond (rest : List EnvStep) :
      ((s.startTransaction .wr1 (commandFrame addr false) (dataFrame data)).answeredWith r1 rest).LatchesOk :=
    latchesOk_startWrite s addr data
  refine ⟨_, runSteps_waits_ack (latchesOk_startWrite s addr data) Seq.noConfusion hstim,
    (runSteps_waits_ack (hsecond _) Seq.noConfusion rfl).trans ?_⟩
  simp [State.answeredWith, State.afterAck, State.startSecond, State.afterWrite, State.recordExchange,
    State.startTransaction, State.complete, State.releaseBus, State.xferCs]

/-! A line of the requester that starts a transaction (R28, R76). -/

/-- A quiet step takes the first line: nothing else of the state changes but the sampled inputs. -/
theorem lineTaken_quietStep {s : State} {later : List EnvStep} (h : s.stimulus = quietStep :: later)
    (line : Line) (rest : List Line) :
    s.lineTaken line rest = { s with
      rspValid := false
      xferAck := false
      resetIn := false
      stimulus := later
      program := rest
      noValueRead := s.noValueRead || line.operands.any fun o => !s.readable o } := by
  rw [State.lineTaken, sampleInputs_quietStep h]

/-- `s` without its first line, a copy of no value flagged (R28, R34). -/
def State.withoutLine (line : Line) (rest : List Line) (s : State) : State :=
  { s with program := rest, noValueRead := s.noValueRead || line.operands.any fun o => !s.readable o }

/-- A quiet step from IDLE runs its first line's instruction. -/
theorem step_quiet_line {s : State} {line : Line} {rest : List Line} {later : List EnvStep} {i : Instr}
    (hs : s.seq = .idle) (hp : s.program = line :: rest) (hstim : s.stimulus = quietStep :: later)
    (hi : line.issue s.sampleInputs = i) : step s = exec i (s.lineTaken line rest) := by
  rw [step_eq_exec_lineTaken hs (by rw [sampleInputs_quietStep hstim]) hp, hi]

/-- A read presented in IDLE takes its acceptance and two exchanges, each as long as the transport waits (R113). -/
theorem runSteps_read {s : State} {line : Line} {rest : List Line} {addr : Field14} {n m : Nat} {r1 r2 : Frame}
    {later : List EnvStep} (hs : s.seq = .idle) (hp : s.program = line :: rest)
    (hi : line.issue s.sampleInputs = .rdReg addr)
    (hstim : s.stimulus = quietStep :: (waits n ++ ackStep r1 :: (waits m ++ ackStep r2 :: later))) :
    ∃ u, runSteps (n + 2) s = .next u ∧
      u.busLog = s.busLog ++ [.exchange s.csId (commandFrame addr true) r1] ∧
      runSteps (n + m + 3) s = .next ((s.withoutLine line rest).afterRead addr r1 r2 later) := by
  have htaken := lineTaken_quietStep hstim line rest
  have hidle : (s.lineTaken line rest).seq = .idle := (lineTaken_seq s line rest).trans hs
  obtain ⟨u, hfirst, hlog, hsecond⟩ := runSteps_startedRead addr (n := n) (m := m) (r1 := r1) (r2 := r2)
    (later := later) (s := s.lineTaken line rest) (by rw [htaken])
  have hphase1 : runSteps (n + 2) s = .next u := by
    rw [runSteps, step_quiet_line hs hp hstim hi, exec_rdReg_idle addr hidle]
    exact hfirst
  refine ⟨u, hphase1, hlog.trans (by rw [htaken]), ?_⟩
  rw [show n + m + 3 = (n + 2) + (m + 1) by omega, runSteps_add, hphase1]
  refine hsecond.trans ?_
  rw [htaken]
  rfl

/-- A write presented in IDLE takes its acceptance and two exchanges, each as long as the transport waits (R113). -/
theorem runSteps_write {s : State} {line : Line} {rest : List Line} {addr data : Field14} {n m : Nat}
    {r1 r2 : Frame} {later : List EnvStep} (hs : s.seq = .idle) (hp : s.program = line :: rest)
    (hi : line.issue s.sampleInputs = .wrReg addr data)
    (hstim : s.stimulus = quietStep :: (waits n ++ ackStep r1 :: (waits m ++ ackStep r2 :: later))) :
    runSteps (n + m + 3) s = .next ((s.withoutLine line rest).afterWrite addr data r1 r2 later) := by
  have htaken := lineTaken_quietStep hstim line rest
  have hidle : (s.lineTaken line rest).seq = .idle := (lineTaken_seq s line rest).trans hs
  obtain ⟨u, hfirst, hsecond⟩ := runSteps_startedWrite addr data (n := n) (m := m) (r1 := r1) (r2 := r2)
    (later := later) (s := s.lineTaken line rest) (by rw [htaken])
  have hphase1 : runSteps (n + 2) s = .next u := by
    rw [runSteps, step_quiet_line hs hp hstim hi, exec_wrReg_idle addr data hidle]
    exact hfirst
  rw [show n + m + 3 = (n + 2) + (m + 1) by omega, runSteps_add, hphase1]
  refine hsecond.trans ?_
  rw [htaken]
  rfl

/-- A request word copies no register, so that taking it flags nothing. -/
theorem withoutLine_word (s : State) (w : Request) (rest : List Line) :
    s.withoutLine (.word w) rest = { s with program := rest } := by
  simp [State.withoutLine, Line.operands]

/-- Settles O35: the acceptance, then each exchange after its waits; the second word is decoded (R113 to R118). -/
theorem readTakesTwoExchanges : Obligations.ReadTakesTwoExchanges := by
  intro s a b c rest n m r1 r2 later hs hp hstim lo command
  obtain ⟨-, -, -, hrun⟩ := runSteps_read hs hp (decodeRequest_requestWord_rdReg a b c) hstim
  rw [withoutLine_word] at hrun
  rw [hrun, ← show commandFrame (frameLow a) true = command from readCommand_eq_or_ite a,
    ← frameLow_setWidth, ← parityFault_eq_xor_decide]
  rfl

/-- Settles O36: the acceptance, then each exchange after its waits, no word received being used (R113, R119, R120). -/
theorem writeTakesTwoExchanges : Obligations.WriteTakesTwoExchanges := by
  intro s a b c rest n m r1 r2 later hs hp hstim lo1 lo2 command data
  have hrun := runSteps_write hs hp (decodeRequest_requestWord_wrReg a b c) hstim
  rw [withoutLine_word] at hrun
  rw [hrun, ← show commandFrame (frameLow a) false = command from writeCommand_eq_or_ite a,
    ← show dataFrame (frameLow b) = data from dataFrame_eq_or_ite b]
  rfl

/-! The pipeline contract (R52, R53). -/

/-- A sensor that answers right after a read command, nothing having intruded, gives the addressed register's frame
after a history it may have (R53, R160). -/
theorem Sensor.Pipelined.answer {S : Sensor} {frameOf : Field14 → List Frame → Nat → Frame}
    (hS : S.Pipelined frameOf) {log : List BusEvent} {cs : BitVec Config.csIdWidth} {addr : Field14}
    {r1 r2 : Frame} (hlast : log.getLast? ≠ some (.foreign true))
    (hmay : S.mayAnswer (log ++ [.exchange cs (commandFrame addr true) r1]) r2) :
    ∃ sent choice, PossibleHistory log sent ∧ r2 = frameOf addr sent choice := by
  have hadjacent : adjacent (log ++ [.exchange cs (commandFrame addr true) r1]) = true := by
    rw [adjacent_exchange, (intruded_eq_false_iff log).mpr hlast, Bool.not_false]
  obtain ⟨_, choice, hsent, rfl⟩ := hmay hadjacent
  obtain ⟨earlier, hearlier, rfl⟩ := possibleHistory_exchange.mp hsent
  exact ⟨earlier, choice, hearlier, hS earlier addr choice⟩

/-- ECHO gives back the command it received: a pipelined sensor whose frame for a register is its read command. -/
theorem echoSensor_pipelined : echoSensor.Pipelined fun addr _ _ => commandFrame addr true := by
  intro sent addr choice
  simp [echoSensor]

/-- The low field as a number. -/
theorem frameLow_toNat (f : Frame) : (frameLow f).toNat = f.toNat % 16384 := BitVec.extractLsb'_toNat ..

/-- RSP_VAL of a decoded frame is its low 14 bits (R103). -/
theorem frameLow_setWidth_value_toNat (f : Frame) : ((frameLow f).setWidth 20 : Value).toNat = f.toNat % 16384 := by
  rw [BitVec.toNat_setWidth, frameLow_toNat]
  omega

/-- Settles O39: phase 1 ends with the read command last in the record, so that the contract names the phase-2 word,
and that word is what the read leaves (R53, R118). -/
theorem readReturnsThePipelinedFrame : Obligations.ReadReturnsThePipelinedFrame := by
  intro S frameOf s a b c rest n m r1 r2 later hS hinv hs hp hstim
  obtain ⟨u, hphase1, hlog, hrun⟩ := runSteps_read hs hp (decodeRequest_requestWord_rdReg a b c) hstim
  refine ⟨u, hphase1, fun hmay => ?_⟩
  obtain ⟨sent, choice, hsent, hr2⟩ := hS.answer (hinv.keeps_off_idle hs) (hlog ▸ hmay)
  exact ⟨_, sent, choice, hrun, hsent, hr2, frameLow_setWidth_value_toNat r2, rfl, rfl⟩

/-- Settles O40: ECHO is a pipelined sensor, and the read command decodes to its address with bit 14 set and no fault
(R105, R106). -/
theorem echoReadReturnsItsOwnCommand : Obligations.EchoReadReturnsItsOwnCommand := by
  intro s a b c rest n m r1 r2 later hinv hs hp hstim
  obtain ⟨u, hphase1, hlog, hrun⟩ := runSteps_read hs hp (decodeRequest_requestWord_rdReg a b c) hstim
  refine ⟨u, hphase1, fun hmay => ?_⟩
  obtain ⟨-, -, -, rfl⟩ := echoSensor_pipelined.answer (hinv.keeps_off_idle hs) (hlog ▸ hmay)
  refine ⟨_, hrun, rfl, ?_, frameBit14_commandFrame _ true, parityFault_of_oddFrame (oddFrame_commandFrame _ true)⟩
  have hval : ((frameLow (commandFrame (frameLow a) true)).setWidth 20 : Value).toNat = a.toNat % 16384 := by
    rw [frameLow_commandFrame, frameLow_setWidth_value_toNat]
  exact hval

end Sys2Proof.Machine

/-! SUPPORT. The lines of the assembler and the runs of the pseudo-operations: an expansion step, then the transactions
it issues (30_encoding.md section 4, 44_angle_and_facade.md section 2). -/

namespace Sys2Proof.Machine

/-! The lines of R76 as instructions on their operands. -/

theorem issue_asm (s : State) (op : BitVec 4) (a b : Operand) (c : BitVec 10) :
    (Line.asm op a b c).issue s = decodeRequest (requestWord op (s.copied a) (s.copied b) c) := by
  simp only [Line.issue, operand_value_eq]

theorem issue_asmRdReg (s : State) (addr : Operand) :
    (asmRdReg addr).issue s = .rdReg (frameLow (s.copied addr)) :=
  (issue_asm ..).trans (decodeRequest_requestWord_rdReg _ _ _)

theorem issue_asmWrReg (s : State) (addr data : Operand) :
    (asmWrReg addr data).issue s = .wrReg (frameLow (s.copied addr)) (frameLow (s.copied data)) :=
  (issue_asm ..).trans (decodeRequest_requestWord_wrReg _ _ _)

theorem issue_asmAngScl (s : State) (a : Operand) :
    (asmAngScl a).issue s = .angScl (frameLow (s.copied a)) :=
  (issue_asm ..).trans (decodeRequest_requestWord_angScl _ _ _)

/-- READ or WRITE is bit 0 of CMD_ENC's second operand (R76). -/
theorem issue_asmCmdEnc (s : State) (addr : Operand) (read : Bool) :
    (asmCmdEnc addr read).issue s = .cmdEnc (frameLow (s.copied addr)) read := by
  have hread : (s.copied (.lit ((BitVec.ofBool read).setWidth 16))).getLsbD 0 = read := by simp [State.copied]
  rw [asmCmdEnc, issue_asm, decodeRequest_requestWord_cmdEnc, hread]

/-- A register name stands for its address (R42, R76). -/
theorem frameLow_copied_reg (s : State) (r : RegName) : frameLow (s.copied (.reg r)) = r.address :=
  frameLow_setWidth_field r.address

/-- Settles O57: each form's OP selects its row, whose operand bits are those of the copied operands (R70, R76). -/
theorem assemblerFormsPresentTheirOperation : Obligations.AssemblerFormsPresentTheirOperation := by
  refine ⟨fun s a b read d => ?_, fun s r => ⟨rfl, frameLow_copied_reg s r⟩⟩
  exact ⟨(issue_asm ..).trans (decodeRequest_requestWord_parGen _ _ _),
    (issue_asm ..).trans (decodeRequest_requestWord_parChk _ _ _),
    issue_asmCmdEnc s a read,
    (issue_asm ..).trans (decodeRequest_requestWord_datEnc _ _ _),
    (issue_asm ..).trans (decodeRequest_requestWord_frmDec _ _ _),
    (issue_asm ..).trans (decodeRequest_requestWord_fldGet _ _ d),
    (issue_asm ..).trans (decodeRequest_requestWord_fldSet _ _ d),
    issue_asmAngScl s a, issue_asmRdReg s a, issue_asmWrReg s a b⟩

/-- Settles O56: the step issues the line on its operands as copied, which sampling the inputs does not change, and
flags exactly the operands without a value (R34, R76). -/
theorem assembledLinesCopyTheirOperands : Obligations.AssembledLinesCopyTheirOperands := by
  intro s rest hs hr run
  refine ⟨fun op a b c hp => ?_, fun hp => ?_, fun x y =>
    ⟨fun hp => ?_, fun hp => ?_, fun hp => ?_, fun hp => ?_, fun hp => ?_⟩⟩ <;>
    rw [step_line hs hr hp] <;> simp [run, Line.issue, Line.operands]

/-! The expansion step (R77; log entry 7). -/

/-- A quiet step expands a pseudo-operation and does nothing else. -/
theorem step_expands {s : State} {line : Line} {rest lines : List Line} {later : List EnvStep} (hs : s.seq = .idle)
    (hp : s.program = line :: rest) (hstim : s.stimulus = quietStep :: later)
    (hexec : ∀ u, exec (line.issue s.sampleInputs) u = .next (u.issueFirst lines)) :
    step s = .next ((s.lineTaken line rest).issueFirst lines) :=
  (step_quiet_line hs hp hstim rfl).trans (hexec _)

/-- A line of literals leaves the error flag as it is when it is taken. -/
theorem withoutLine_of_readable {s : State} {line : Line} (rest : List Line)
    (h : ∀ o ∈ line.operands, s.readable o = true) : s.withoutLine line rest = { s with program := rest } := by
  have hany : (line.operands.any fun o => !s.readable o) = false := by simpa using h
  simp [State.withoutLine, hany]

/-- The line RD_REG of a literal, run through (R76, R113). -/
theorem runSteps_readLiteral {s : State} {rest : List Line} {a : Frame} {n m : Nat} {r1 r2 : Frame}
    {later : List EnvStep} (hs : s.seq = .idle) (hp : s.program = asmRdReg (.lit a) :: rest)
    (hstim : s.stimulus = quietStep :: (waits n ++ ackStep r1 :: (waits m ++ ackStep r2 :: later))) :
    runSteps (n + m + 3) s =
      .next (({ s with program := rest } : State).afterRead (frameLow a) r1 r2 later) := by
  obtain ⟨-, -, -, hrun⟩ := runSteps_read hs hp (issue_asmRdReg _ _) hstim
  rwa [withoutLine_of_readable _ (by simp [asmRdReg, Line.operands, State.readable])] at hrun

/-- The line WR_REG of literals, run through (R76, R113). -/
theorem runSteps_writeLiterals {s : State} {rest : List Line} {a v : Frame} {n m : Nat} {r1 r2 : Frame}
    {later : List EnvStep} (hs : s.seq = .idle) (hp : s.program = asmWrReg (.lit a) (.lit v) :: rest)
    (hstim : s.stimulus = quietStep :: (waits n ++ ackStep r1 :: (waits m ++ ackStep r2 :: later))) :
    runSteps (n + m + 3) s =
      .next (({ s with program := rest } : State).afterWrite (frameLow a) (frameLow v) r1 r2 later) := by
  have hrun := runSteps_write hs hp (issue_asmWrReg _ _ _) hstim
  rwa [withoutLine_of_readable _ (by simp [asmWrReg, Line.operands, State.readable])] at hrun

/-- A pseudo-operation that opens with a read of the literal `a`: one step of expansion, then the read (R136, R143). -/
theorem runSteps_expandedRead {s : State} {line : Line} {rest lines : List Line} {a : Frame} {n m : Nat}
    {r1 r2 : Frame} {later : List EnvStep} (hs : s.seq = .idle) (hp : s.program = line :: rest)
    (hstim : s.stimulus =
      quietStep :: quietStep :: (waits n ++ ackStep r1 :: (waits m ++ ackStep r2 :: later)))
    (hexec : ∀ u, exec (line.issue s.sampleInputs) u = .next (u.issueFirst (asmRdReg (.lit a) :: lines))) :
    runSteps (n + m + 4) s =
      .next ((s.withoutLine line (lines ++ rest)).afterRead (frameLow a) r1 r2 later) := by
  have htaken := lineTaken_quietStep hstim line rest
  rw [runSteps, step_expands hs hp hstim hexec, htaken]
  exact runSteps_readLiteral hs rfl rfl

/-- A pseudo-operation that opens with a write of literals: one step of expansion, then the write (R138 to R143). -/
theorem runSteps_expandedWrite {s : State} {line : Line} {rest lines : List Line} {a v : Frame} {n m : Nat}
    {r1 r2 : Frame} {later : List EnvStep} (hs : s.seq = .idle) (hp : s.program = line :: rest)
    (hstim : s.stimulus =
      quietStep :: quietStep :: (waits n ++ ackStep r1 :: (waits m ++ ackStep r2 :: later)))
    (hexec : ∀ u, exec (line.issue s.sampleInputs) u =
      .next (u.issueFirst (asmWrReg (.lit a) (.lit v) :: lines))) :
    runSteps (n + m + 4) s =
      .next ((s.withoutLine line (lines ++ rest)).afterWrite (frameLow a) (frameLow v) r1 r2 later) := by
  have htaken := lineTaken_quietStep hstim line rest
  rw [runSteps, step_expands hs hp hstim hexec, htaken]
  exact runSteps_writeLiterals hs rfl rfl

/-! READ_ANGLE (R136, R137). -/

/-- ANG_SCL of RSP_VAL scales the frame that was decoded into it. -/
theorem frameLow_copied_rspVal {s : State} {f : Frame} (h : s.rspVal = (frameLow f).setWidth 20) :
    frameLow (s.copied .rspVal) = frameLow f := by
  refine BitVec.eq_of_toNat_eq ?_
  rw [frameLow_toNat, State.copied, h, frameLow_setWidth_value_toNat, BitVec.toNat_ofNat, frameLow_toNat]
  omega

/-- Steps after steps that answer. -/
theorem runSteps_append {j k : Nat} {s t : State} (h : runSteps j s = .next t) :
    runSteps (j + k) s = runSteps k t := by
  rw [runSteps_add, h]

theorem runSteps_one (s : State) : runSteps 1 s = step s := by
  unfold runSteps
  cases step s <;> rfl

/-- ANG_SCL RSP_VAL after a frame was decoded: the degrees in RSP_VAL, status OK, nothing else written (R131, R136). -/
theorem step_scaleValue {t : State} {rest : List Line} {later : List EnvStep} {f : Frame} (hs : t.seq = .idle)
    (hp : t.program = asmAngScl .rspVal :: rest) (hstim : t.stimulus = quietStep :: later)
    (hval : t.rspVal = (frameLow f).setWidth 20) :
    ∃ u, step t = .next u ∧ u.seq = .idle ∧ u.busOwn = t.busOwn ∧ u.rspValid = true ∧
      u.results = (t.rspFrame, scaleAngle (frameLow f), t.rspPe, t.rspEf, statusOk,
        t.frameSet, true, t.peSet, t.efSet, true) ∧
      u.program = rest ∧ u.busLog = t.busLog := by
  have hidle := (lineTaken_seq t (asmAngScl .rspVal) rest).trans hs
  have hstep := (step_quiet_line hs hp hstim (issue_asmAngScl _ .rspVal)).trans (exec_angScl_idle _ hidle)
  rw [copied_sampleInputs, frameLow_copied_rspVal hval, lineTaken_quietStep hstim] at hstep
  exact ⟨_, hstep, rfl, rfl, rfl, rfl, rfl, rfl⟩

/-- Settles O41: the expansion, the read of ANGLE, and ANG_SCL of the value it left, which writes RSP_VAL and status OK
only (R136, R137). -/
theorem readAngleLeavesDegrees : Obligations.ReadAngleLeavesDegrees := by
  intro s rest n m r1 r2 later hs hp hstim
  have hread := runSteps_expandedRead (a := 0x3FFE) (lines := [asmAngScl .rspVal]) hs hp hstim fun _ => rfl
  obtain ⟨u, hscale, hseq, hown, hvalid, hresults, hprogram, hlog⟩ :=
    step_scaleValue (t := (s.withoutLine .readAngle (asmAngScl .rspVal :: rest)).afterRead (frameLow 0x3FFE) r1 r2
      (quietStep :: later)) (f := r2) rfl rfl rfl rfl
  have hcommand : commandFrame (frameLow 0x3FFE) true = 0xFFFE := by decide
  refine ⟨u, ?_, hseq, hown, hvalid, ?_, hprogram, ?_⟩
  · rw [runSteps_append (k := 1) hread, runSteps_one]
    exact hscale
  · rw [hresults, scaleAngle_frameLow]
    rfl
  · rw [hlog, ← hcommand]
    rfl

/-! WRITE_ZPOS (R138 to R140). -/

/-- The data frame of a byte operand (R138, R144). -/
theorem dataFrame_byteOf (v : Frame) :
    dataFrame (frameLow (byteOf v)) =
      (v &&& 0xFF#16) |||
        (if popcount ((v &&& 0xFF#16).extractLsb' 0 15) % 2 = 0 then 0x8000#16 else 0#16) := by
  have hbyte : byteOf v &&& 0x3FFF#16 = v &&& 0xFF#16 := BitVec.and_assoc v _ _
  rw [dataFrame_eq_or_ite, hbyte]

/-- Settles O42: the expansion, the write of ZPOSM, which ends in IDLE with the bus released, and the write of ZPOSL
(R138, R139, R144). -/
theorem writeZposIsTwoWrites : Obligations.WriteZposIsTwoWrites := by
  intro s rest m l n1 n2 n3 n4 r1 r2 r3 r4 later hs hp hstim data
  have hfirst := runSteps_expandedWrite (n := n1) (m := n2) (a := 0x0016) (v := byteOf (s.copied m))
    (lines := [asmWrReg (.reg .zposl) (.lit (byteOf (s.copied l)))]) hs hp hstim fun u => by
      simp only [Line.issue, operand_value_eq, copied_sampleInputs]
      rfl
  have hsecond := runSteps_writeLiterals (n := n3) (m := n4) (r1 := r3) (r2 := r4) (later := later) (a := 0x0017)
    (v := byteOf (s.copied l)) (rest := rest)
    (s := (s.withoutLine (.writeZpos m l) (asmWrReg (.reg .zposl) (.lit (byteOf (s.copied l))) :: rest)).afterWrite
      (frameLow 0x0016) (frameLow (byteOf (s.copied m))) r1 r2
      (quietStep :: (waits n3 ++ ackStep r3 :: (waits n4 ++ ackStep r4 :: later)))) rfl rfl rfl
  have hzposm : commandFrame (frameLow 0x0016) false = 0x0016 := by decide
  have hzposl : commandFrame (frameLow 0x0017) false = 0x8017 := by decide
  have hdata (v : Frame) : data v = dataFrame (frameLow (byteOf v)) := (dataFrame_byteOf v).symm
  have hrun := (runSteps_append (k := n3 + n4 + 3) hfirst).trans hsecond
  rw [show n1 + n2 + 4 + (n3 + n4 + 3) = n1 + n2 + n3 + n4 + 7 by omega] at hrun
  refine ⟨⟨_, hfirst, rfl, rfl⟩, _, hrun, rfl, rfl, rfl, rfl, ?flag, rfl, ?busLog⟩
  case flag => simp [State.afterWrite, State.withoutLine, Line.operands, Bool.or_assoc]
  case busLog =>
    calc _ = s.busLog ++ [.exchange s.csId (commandFrame (frameLow 0x0016) false) r1,
            .exchange s.csId (dataFrame (frameLow (byteOf (s.copied m)))) r2] ++
          [.exchange s.csId (commandFrame (frameLow 0x0017) false) r3,
            .exchange s.csId (dataFrame (frameLow (byteOf (s.copied l)))) r4] := rfl
      _ = _ := by rw [hzposm, hzposl, ← hdata, ← hdata, List.append_assoc]; rfl

/-! The other pseudo-operations (R141 to R143). -/

/-- What a pseudo-operation that expands to one write leaves: the two words of the write, RSP_ERR and nothing else. -/
theorem runSteps_expandedWrite_summary {s : State} {line : Line} {rest : List Line} {a v : Frame} {n m : Nat}
    {r1 r2 : Frame} {later : List EnvStep} (hs : s.seq = .idle) (hp : s.program = line :: rest)
    (hstim : s.stimulus =
      quietStep :: quietStep :: (waits n ++ ackStep r1 :: (waits m ++ ackStep r2 :: later)))
    (hexec : ∀ u, exec (line.issue s.sampleInputs) u = .next (u.issueFirst [asmWrReg (.lit a) (.lit v)])) :
    ∃ t, runSteps (n + m + 4) s = .next t ∧ t.seq = .idle ∧ t.busOwn = false ∧ t.rspValid = true ∧
      t.program = rest ∧
      t.noValueRead = (s.noValueRead || line.operands.any fun o => !s.readable o) ∧
      t.busLog = s.busLog ++
        [.exchange s.csId (commandFrame (frameLow a) false) r1, .exchange s.csId (dataFrame (frameLow v)) r2] ∧
      t.results = (s.rspFrame, s.rspVal, s.rspPe, s.rspEf, 0, s.frameSet, s.valSet, s.peSet, s.efSet, true) :=
  ⟨_, runSteps_expandedWrite hs hp hstim hexec, rfl, rfl, rfl, rfl, rfl, rfl, rfl⟩

/-- What READ_REGISTER leaves: the two words of the read and the phase-2 word decoded (R143). -/
theorem runSteps_expandedRead_summary {s : State} {line : Line} {rest : List Line} {a : Frame} {n m : Nat}
    {r1 r2 : Frame} {later : List EnvStep} (hs : s.seq = .idle) (hp : s.program = line :: rest)
    (hstim : s.stimulus =
      quietStep :: quietStep :: (waits n ++ ackStep r1 :: (waits m ++ ackStep r2 :: later)))
    (hexec : ∀ u, exec (line.issue s.sampleInputs) u = .next (u.issueFirst [asmRdReg (.lit a)])) :
    ∃ t, runSteps (n + m + 4) s = .next t ∧ t.seq = .idle ∧ t.busOwn = false ∧ t.rspValid = true ∧
      t.program = rest ∧
      t.noValueRead = (s.noValueRead || line.operands.any fun o => !s.readable o) ∧
      t.busLog = s.busLog ++
        [.exchange s.csId (commandFrame (frameLow a) true) r1, .exchange s.csId 0x4000 r2] ∧
      t.results = (r2, (r2 &&& 0x3FFF#16).setWidth 20,
        r2.getLsbD 15 ^^ decide (popcount (r2.extractLsb' 0 15) % 2 = 0), r2.getLsbD 14, 0,
        true, true, true, true, true) := by
  rw [← frameLow_setWidth, ← parityFault_eq_xor_decide]
  exact ⟨_, runSteps_expandedRead hs hp hstim hexec, rfl, rfl, rfl, rfl, rfl, rfl, rfl⟩

/-- Settles O43: each of the four expands to one read or one write of the bits copied in the expansion step (R141 to
R144). -/
theorem settingsAndRegisterPseudoOpsRun : Obligations.SettingsAndRegisterPseudoOpsRun := by
  intro s rest x v n m r1 r2 later hs hstim p hp hprogram
  have hsettings1 : commandFrame (frameLow 0x0018) false = 0x8018 := by decide
  have hsettings2 : commandFrame (frameLow 0x0019) false = 0x0019 := by decide
  simp only [List.mem_cons, List.not_mem_nil, or_false] at hp
  obtain rfl | rfl | rfl | rfl := hp
  · rw [if_neg nofun, ← hsettings1]
    refine runSteps_expandedWrite_summary (v := byteOf (s.copied v)) hs hprogram hstim fun u => ?_
    simp only [Line.issue, operand_value_eq, copied_sampleInputs]
    rfl
  · rw [if_neg nofun, ← hsettings2]
    refine runSteps_expandedWrite_summary (v := byteOf (s.copied v)) hs hprogram hstim fun u => ?_
    simp only [Line.issue, operand_value_eq, copied_sampleInputs]
    rfl
  · rw [if_pos rfl]
    refine runSteps_expandedRead_summary hs hprogram hstim fun u => ?_
    simp only [Line.issue, operand_value_eq, copied_sampleInputs]
    rfl
  · rw [if_neg nofun]
    refine runSteps_expandedWrite_summary hs hprogram hstim fun u => ?_
    simp only [Line.issue, operand_value_eq, copied_sampleInputs]
    rfl

end Sys2Proof.Machine

/-! SUPPORT. The rows of the wire frames, the expansions and the spec's own words (30_encoding.md, 43_sequencer.md R113,
44_angle_and_facade.md R136 to R144), and the reset (70_reset_and_hazards.md R166 to R168). -/

namespace Sys2Proof.Machine

/-! The wire frames at their positions and outside them (R63, R113). -/

/-- A row of the wire outside the SEQ state that sends it is refused (R63). -/
theorem exchange_elsewhere {pos : Seq} {s : State} (tx : Frame) (k : State → State) (hp : s.seq ≠ pos) :
    s.exchange pos tx k = .refused .frameOutOfPosition :=
  if_neg hp

/-- Settles O12: each row's exchange is recorded with its own word and followed by its row of the transition table
(R113, R118, R120). -/
theorem acknowledgedFramesAdvanceTheSequencer : Obligations.AcknowledgedFramesAdvanceTheSequencer := by
  intro x b p s hack
  refine ⟨fun hs => ?rd1, fun hs => ?rd2, fun hs => ?wr1, fun hs => ?wr2⟩
  case rd1 =>
    rw [exec_wireReadCmd_eq_exchange, exchange_ack _ _ hs hack]
    rfl
  case rd2 =>
    rw [exec_wireNop_eq_exchange, exchange_ack _ _ hs hack, ← frameLow_setWidth, ← parityFault_eq_xor_decide]
    simp only [State.recordExchange, State.loadDataFrame, State.setRspFrame, State.setRspVal, State.setRspEf,
      State.setRspPe, State.releaseBus, State.complete]
    rfl
  case wr1 =>
    rw [exec_wireWriteCmd_eq_exchange, exchange_ack _ _ hs hack]
    rfl
  case wr2 =>
    rw [exec_wireData_eq_exchange, exchange_ack _ _ hs hack]
    rfl

/-- Settles O13: an exchange without its acknowledgement is held (R50, R113). -/
theorem unacknowledgedFramesAreHeld : Obligations.UnacknowledgedFramesAreHeld := by
  intro x b p s hack
  rw [exec_wireReadCmd_eq_exchange, exec_wireNop_eq_exchange, exec_wireWriteCmd_eq_exchange,
    exec_wireData_eq_exchange]
  exact ⟨fun hs => exchange_held _ _ hs hack, fun hs => exchange_held _ _ hs hack,
    fun hs => exchange_held _ _ hs hack, fun hs => exchange_held _ _ hs hack⟩

/-- Settles O14: each row is an exchange of one position (R63, R113). -/
theorem framesOutOfPositionAreRefused : Obligations.FramesOutOfPositionAreRefused := by
  intro x b p s
  rw [exec_wireReadCmd_eq_exchange, exec_wireNop_eq_exchange, exec_wireWriteCmd_eq_exchange,
    exec_wireData_eq_exchange]
  exact ⟨exchange_elsewhere _ _, exchange_elsewhere _ _, exchange_elsewhere _ _, exchange_elsewhere _ _⟩

/-- Settles O15: the lines put first are those of R136 to R143, the register names being their addresses (R42). -/
theorem pseudoOperationsExpand : Obligations.PseudoOperationsExpand := fun _ _ _ =>
  ⟨rfl, rfl, rfl, rfl, rfl, rfl⟩

/-- Settles O17: in IDLE the step issues its line, a request word as it decodes; outside it runs the frame that the
latch of its position decodes to (R63, R113). -/
theorem stepRunsTheDecodedInstruction : Obligations.StepRunsTheDecodedInstruction := by
  intro s hr
  refine ⟨fun w rest hs hp => ⟨rfl, ?word⟩, fun i hs hd => ?rd1, fun i hs hd => ?rd2, fun i hs hd => ?wr1,
    fun i hs hd => ?wr2⟩
  case word => simp [step_line hs hr hp, Line.issue, Line.operands]
  all_goals exact step_frameOnBus hr (by simp only [State.frameOnBus, hs]) hd

/-- Settles O18: the words of 95_test_vectors.md section 3, decoded. -/
theorem specWordsDecode : Obligations.SpecWordsDecode := by
  refine ⟨?_, ?_, ?_, ?_, ?_, ?_, ?_, ?_, ?_, ?_, ?_, ?_, ?_⟩ <;> decide

/-- Settles O19: the table of 30_encoding.md section 3, row by row. -/
theorem namedRegisterFrames : Obligations.NamedRegisterFrames := by
  unfold Obligations.NamedRegisterFrames
  decide

/-! The reset (R166 to R168). -/

/-- Settles O55: the values R35 gives. -/
theorem resetStateValues : Obligations.ResetStateValues :=
  ⟨rfl, rfl, rfl, rfl, rfl, rfl, rfl, rfl, rfl, rfl, rfl⟩

/-- Settles O54: a late acknowledgement is sampled as no signal (R167; log entry 12). -/
theorem lateAcknowledgementIsIgnored : Obligations.LateAcknowledgementIsIgnored := fun _ _ _ _ _ => rfl

theorem sampleInputs_resetIn {s : State} {e : EnvStep} {later : List EnvStep} (h : s.stimulus = e :: later) :
    s.sampleInputs.resetIn = e.reset := by
  simp only [State.sampleInputs, h]

theorem sampleInputs_xferAck {s : State} {e : EnvStep} {later : List EnvStep} (h : s.stimulus = e :: later) :
    s.sampleInputs.xferAck = e.ack.answers := by
  simp only [State.sampleInputs, h]

/-- A step of reset sends nothing, or exactly the word in progress where its acknowledgement comes in that step (R167;
log entry 12). -/
theorem step_reset_sentWords {s t : State} {e : EnvStep} {later : List EnvStep} (h : step s = .next t)
    (hstim : s.stimulus = e :: later) :
    sentWords t.busLog = sentWords s.busLog ∨
      (e.ack.answers = true ∧ ∃ tx, s.xferTx = some tx ∧ sentWords t.busLog = sentWords s.busLog ++ [tx]) := by
  have hsends := step_sendsAtMostItsWord h
  rwa [State.SendsAtMostItsWord, sentWords_sampleInputs, sampleInputs_xferAck hstim, xferTx_sampleInputs] at hsends

/-- Settles O53: a reset wins over everything in its step, and ends at most the exchange in progress (R166 to R168). -/
theorem resetAppliesInAnyState : Obligations.ResetAppliesInAnyState := by
  intro s e later hstim hreset
  have hstep := step_reset ((sampleInputs_resetIn hstim).trans hreset)
  have hsends := step_reset_sentWords hstep hstim
  refine ⟨_, hstep, rfl, rfl, rfl, rfl, rfl, rfl, rfl, rfl, rfl, sampleInputs_csId s, rfl, sampleInputs_program s, ?_,
    fun hno => ?_, fun _ => ?_⟩
  · rw [applyReset_stimulus, sampleInputs_stimulus, hstim, List.tail_cons]
  · simpa [hno] using hsends
  · exact hsends.imp_right And.right

/-- Settles O60: the acknowledged exchange enters the record before the cut, which leaves the next word unconstrained
(R167; log entries 12 and 23). -/
theorem acknowledgementInTheStepOfAReset : Obligations.AcknowledgementInTheStepOfAReset := by
  intro s foreign rx tx later htx hstim
  have hack : s.sampleInputs.xferAck = true := sampleInputs_xferAck hstim
  have hlog : s.sampleInputs.applyReset.busLog = s.sampleInputs.busLog ++
      [.exchange s.sampleInputs.csId tx s.sampleInputs.xferRx, .cut s.sampleInputs.tx1] := by
    simp [State.recordReset, htx, hack, State.xferCs]
  refine ⟨_, step_reset (sampleInputs_resetIn hstim), rfl, rfl, rfl, rfl, rfl, rfl, rfl, rfl, rfl, rfl, ?_, ?_⟩
  · rw [hlog, sentWords_append, sentWords_sampleInputs]
    rfl
  · rw [hlog]
    simp [adjacent]

end Sys2Proof.Machine

/-! SUPPORT. Two states that differ only in the record of the bus and the last word received: every step of them is
the same, unless it ends phase 2 of a read (43_sequencer.md R117, R118, R120). -/

namespace Sys2Proof.Machine

/-- `s` with another record and another last word received. -/
def State.withBus (log : List BusEvent) (rx : Frame) (s : State) : State := { s with busLog := log, xferRx := rx }

/-- States that look the same without the bus differ in the record and the last word only. -/
theorem eq_withBus_of_forgetBus_eq {s t : State} (h : t.forgetBus = s.forgetBus) :
    t = s.withBus t.busLog t.xferRx :=
  calc t = t.forgetBus.withBus t.busLog t.xferRx := rfl
    _ = s.forgetBus.withBus t.busLog t.xferRx := by rw [h]
    _ = s.withBus t.busLog t.xferRx := rfl

section
variable {log : List BusEvent} {rx : Frame} {s : State}

/-! The requester and the sequencer read neither. -/

theorem reading_withBus (o : Operand) : o.reading (s.withBus log rx) = o.reading s := by
  cases o <;> rfl

theorem issue_withBus (line : Line) : line.issue (s.withBus log rx) = line.issue s := by
  cases line <;> simp only [Line.issue, Operand.value, reading_withBus]

theorem copiesNoValue_withBus (line : Line) : line.copiesNoValue (s.withBus log rx) = line.copiesNoValue s := by
  simp only [Line.copiesNoValue, reading_withBus]

/-- What is found to run, with the state it runs in changed likewise. -/
def Fetched.withBus (log : List BusEvent) (rx : Frame) : Fetched → Fetched
  | .nothing => .nothing
  | .instr i u => .instr i (u.withBus log rx)
  | .refusal r => .refusal r

theorem fetch_withBus : (s.withBus log rx).fetch = s.fetch.withBus log rx := by
  have hframe : (s.withBus log rx).frameOnBus = s.frameOnBus := rfl
  unfold State.fetch
  rw [hframe]
  split
  · have hprogram : (s.withBus log rx).program = s.program := rfl
    unfold State.fetchLine
    rw [hprogram]
    split
    · rfl
    · rw [issue_withBus, copiesNoValue_withBus]
      rfl
  · unfold fetchFrame
    split <;> rfl

/-! The operations of the block commute with forgetting the bus. -/

@[simp] theorem withBus_xferRx : (s.withBus log rx).xferRx = rx := rfl
@[simp] theorem forgetBus_withBus : (s.withBus log rx).forgetBus = s.forgetBus := rfl
@[simp] theorem forgetBus_setRspFrame (v : Frame) : (s.setRspFrame v).forgetBus = s.forgetBus.setRspFrame v := rfl
@[simp] theorem forgetBus_setRspVal (v : Value) : (s.setRspVal v).forgetBus = s.forgetBus.setRspVal v := rfl
@[simp] theorem forgetBus_setRspPe (b : Bool) : (s.setRspPe b).forgetBus = s.forgetBus.setRspPe b := rfl
@[simp] theorem forgetBus_setRspEf (b : Bool) : (s.setRspEf b).forgetBus = s.forgetBus.setRspEf b := rfl
@[simp] theorem forgetBus_loadDataFrame (f : Frame) :
    (s.loadDataFrame f).forgetBus = s.forgetBus.loadDataFrame f := rfl
@[simp] theorem forgetBus_complete (code : BitVec 2) : (s.complete code).forgetBus = s.forgetBus.complete code := rfl
@[simp] theorem forgetBus_releaseBus : s.releaseBus.forgetBus = s.forgetBus.releaseBus := rfl
@[simp] theorem forgetBus_startTransaction (first : Seq) (t1 t2 : Frame) :
    (s.startTransaction first t1 t2).forgetBus = s.forgetBus.startTransaction first t1 t2 := rfl
@[simp] theorem forgetBus_startSecond (second : Seq) :
    (s.startSecond second).forgetBus = s.forgetBus.startSecond second := rfl
@[simp] theorem forgetBus_recordExchange (tx : Frame) : (s.recordExchange tx).forgetBus = s.forgetBus := rfl

/-! Each meaning, seen without the bus. -/

theorem perform_withBus {f : State → State} (hf : (f (s.withBus log rx)).forgetBus = (f s).forgetBus) :
    mapNext State.forgetBus ((s.withBus log rx).perform f) = mapNext State.forgetBus (s.perform f) := by
  by_cases hs : s.seq = .idle
  · rw [perform_idle f hs, perform_idle (s := s.withBus log rx) f hs]
    exact congrArg Host.Outcome.next hf
  · rw [perform_busy f hs, perform_busy (s := s.withBus log rx) f hs]
    rfl

theorem exchange_withBus {pos : Seq} {tx : Frame} {k : State → State}
    (hk : s.seq = pos → s.xferAck = true →
      (k ((s.withBus log rx).recordExchange tx)).forgetBus = (k (s.recordExchange tx)).forgetBus) :
    mapNext State.forgetBus ((s.withBus log rx).exchange pos tx k) =
      mapNext State.forgetBus (s.exchange pos tx k) := by
  by_cases hp : s.seq = pos
  · cases hack : s.xferAck with
    | true =>
      rw [exchange_ack tx k hp hack, exchange_ack (s := s.withBus log rx) tx k hp hack]
      exact congrArg Host.Outcome.next (hk hp hack)
    | false =>
      rw [exchange_held tx k hp hack, exchange_held (s := s.withBus log rx) tx k hp hack]
      rfl
  · rw [exchange_elsewhere tx k hp, exchange_elsewhere (s := s.withBus log rx) tx k hp]

/-- No meaning but the acknowledged end of phase 2 uses the last word received (R117, R118, R120). -/
theorem exec_withBus (i : Instr) (hrx : s.seq = .rd2 → s.xferAck = true → rx = s.xferRx) :
    mapNext State.forgetBus (exec i (s.withBus log rx)) = mapNext State.forgetBus (exec i s) := by
  cases i with
  | parGen | parChk | cmdEnc | datEnc | frmDec | angScl | rdReg | wrReg =>
    simp only [exec, execParGen, execParChk, execCmdEnc, execDatEnc, execFrmDec, execAngScl, execRdReg, execWrReg]
    exact perform_withBus (by simp)
  | reservedA | reservedB | reservedC | reservedD | reservedE | reservedF =>
    exact perform_withBus (f := State.complete statusReservedOp) (by simp)
  | fldGet | fldSet =>
    simp only [exec, execFldGet, execFldSet]
    exact perform_withBus (by split <;> simp)
  | wireReadCmd =>
    simp only [exec_wireReadCmd_eq_exchange]
    exact exchange_withBus fun _ _ => by simp
  | wireWriteCmd =>
    simp only [exec_wireWriteCmd_eq_exchange]
    exact exchange_withBus fun _ _ => by simp
  | wireData =>
    simp only [exec_wireData_eq_exchange]
    exact exchange_withBus fun _ _ => by simp
  | wireNop =>
    simp only [exec_wireNop_eq_exchange]
    refine exchange_withBus fun hs hack => ?_
    simp [hrx hs hack]
  | readAngle | writeZpos | writeSettings1 | writeSettings2 | readRegister | writeRegister => rfl

/-! One step and many. -/

/-- Sampling keeps the difference, and a word acknowledged in the step is the same in both. -/
theorem sampleInputs_withBus :
    ∃ log' rx', (s.withBus log rx).sampleInputs = s.sampleInputs.withBus log' rx' ∧
      (s.sampleInputs.xferAck = true → rx' = s.sampleInputs.xferRx) := by
  cases hstim : s.stimulus with
  | nil => exact ⟨log, rx, by simp [State.sampleInputs, State.withBus, hstim], by simp [State.sampleInputs, hstim]⟩
  | cons e later =>
    refine ⟨recordForeign e.foreign s.busOwn log, e.ack.word rx, ?_, ?_⟩
    · simp [State.sampleInputs, State.withBus, hstim]
    · cases hack : e.ack <;> simp [State.sampleInputs, hstim, hack, Ack.answers, Ack.word]

/-- A step whose sampled state differs only in the bus has the same outcome but for the bus, unless it ends phase 2 of
a read with another word. -/
theorem step_withBus {t : State} (hin : t.sampleInputs = s.sampleInputs.withBus log rx)
    (hrx : s.seq = .rd2 → s.sampleInputs.xferAck = true → rx = s.sampleInputs.xferRx) :
    mapNext State.forgetBus (step t) = mapNext State.forgetBus (step s) := by
  unfold step
  rw [hin, fetch_withBus]
  cases hr : s.sampleInputs.resetIn with
  | true =>
    have hr' : (s.sampleInputs.withBus log rx).resetIn = true := hr
    rw [if_pos hr', if_pos rfl]
    rfl
  | false =>
    have hr' : ¬ (s.sampleInputs.withBus log rx).resetIn = true := Bool.eq_false_iff.mp hr
    rw [if_neg hr', if_neg Bool.false_ne_true]
    cases hf : s.sampleInputs.fetch with
    | nothing => rfl
    | refusal r => rfl
    | instr i u =>
      obtain ⟨lines, flag, rfl⟩ := fetch_state hf
      exact exec_withBus i fun hs => hrx ((sampleInputs_seq s).symm.trans hs)

end

/-- States that look the same without the bus step alike (R52, R185). -/
theorem step_forgetBus_congr {s t : State} (h : t.forgetBus = s.forgetBus) :
    mapNext State.forgetBus (step t) = mapNext State.forgetBus (step s) := by
  rw [eq_withBus_of_forgetBus_eq h]
  obtain ⟨log, rx, hin, hrx⟩ := sampleInputs_withBus (log := t.busLog) (rx := t.xferRx) (s := s)
  exact step_withBus hin fun _ => hrx

/-! What an outcome seen through a function was. -/

theorem mapNext_eq_next {f : State → State} {o : Host.Outcome State Fault Refusal} {w : State}
    (h : mapNext f o = .next w) : ∃ v, o = .next v ∧ f v = w := by
  cases o with
  | next v => exact ⟨v, rfl, Host.Outcome.next.inj h⟩
  | fault | refused => cases h

theorem mapNext_eq_fault {f : State → State} {o : Host.Outcome State Fault Refusal} {x : Fault}
    (h : mapNext f o = .fault x) : o = .fault x := by
  cases o with
  | next | refused => cases h
  | fault => exact h

theorem mapNext_eq_refused {f : State → State} {o : Host.Outcome State Fault Refusal} {r : Refusal}
    (h : mapNext f o = .refused r) : o = .refused r := by
  cases o with
  | next | fault => cases h
  | refused => exact h

/-- Runs whose first steps look the same go on alike where the rest of the run does. -/
theorem runSteps_succ_forgetBus_congr {k : Nat} {s t : State}
    (hrest : ∀ u v : State, v.forgetBus = u.forgetBus →
      mapNext State.forgetBus (runSteps k v) = mapNext State.forgetBus (runSteps k u))
    (hstep : mapNext State.forgetBus (step t) = mapNext State.forgetBus (step s)) :
    mapNext State.forgetBus (runSteps (k + 1) t) = mapNext State.forgetBus (runSteps (k + 1) s) := by
  unfold runSteps
  cases hs : step s with
  | next u =>
    rw [hs] at hstep
    obtain ⟨v, ht, hv⟩ := mapNext_eq_next hstep
    rw [ht]
    exact hrest u v hv
  | fault x =>
    rw [hs] at hstep
    rw [mapNext_eq_fault hstep]
  | refused r =>
    rw [hs] at hstep
    rw [mapNext_eq_refused hstep]

/-- States that look the same without the bus run alike. -/
theorem runSteps_forgetBus_congr (k : Nat) {s t : State} (h : t.forgetBus = s.forgetBus) :
    mapNext State.forgetBus (runSteps k t) = mapNext State.forgetBus (runSteps k s) := by
  induction k generalizing s t with
  | zero => exact congrArg Host.Outcome.next h
  | succ k ih => exact runSteps_succ_forgetBus_congr (fun u v => ih) (step_forgetBus_congr h)

/-- Settles O37: after the first step the two runs differ in the record and the last word only, which no later step
reads (R117, R120). -/
theorem onlyThePhaseTwoWordIsUsed : Obligations.OnlyThePhaseTwoWordIsUsed := by
  intro s r r' later k hs
  refine runSteps_succ_forgetBus_congr (fun u v => runSteps_forgetBus_congr k) ?_
  exact step_withBus (log := s.busLog) (rx := r) (by rw [sampleInputs_ackStep rfl, sampleInputs_ackStep rfl]; rfl)
    fun hrd2 => absurd hrd2 hs

end Sys2Proof.Machine
